-- ==== Sys2Proof/Word.lean ====
section
/-!
DEFINITION. The two word types of the machine (00_scope.md R11, R15): a byte is 8 bits, a word is 16 bits.
Arithmetic on both wraps, as `BitVec` arithmetic does.
-/

namespace Sys2Proof

/-- A memory cell, or an 8-bit half of a register pair (R11, R31). -/
abbrev Byte := BitVec 8

/-- A 16-bit register or an address (R11). -/
abbrev Word := BitVec 16

end Sys2Proof
end

