-- ==== Sys2Proof/Machine/Bits.lean ====
section
/-!
DEFINITION. Bit fields, byte order and sign extension (00_scope.md R15; 20_memory.md R90).
-/

namespace Sys2Proof.Machine

/-- `v[15:8]`, the high byte of a word. -/
def hiByte (v : Word) : Byte := v.extractLsb' 8 8

/-- `v[7:0]`, the low byte of a word. -/
def loByte (v : Word) : Byte := v.extractLsb' 0 8

/-- `hi : lo`, the word whose high byte is `hi` and whose low byte is `lo` (R15). -/
def wordOf (hi lo : Byte) : Word := hi ++ lo

/-- `zext_16(v)` (R15). -/
def zext16 (v : Byte) : Word := v.setWidth 16

/-- `sext_16(v)`: bit 7 copied into bits 15..8 (R15). -/
def sext16 (v : Byte) : Word := v.signExtend 16

/-- The high-page address `0xFF00 | zext_16(v)` (R130). -/
def highPage (v : Byte) : Word := 0xFF00#16 ||| zext16 v

end Sys2Proof.Machine
end

