-- ==== Sys2Proof/Syntax.lean ====
section
/-!
DEFINITION. The instruction set: one constructor per row of spec/opcode_table.json (30_encoding.md R120, R125, R132), and the
operand fields the encodings name (R126 to R131).
A constructor's fields are its immediates (R130): `n8` a byte, `n16` a word, `e8` the displacement byte before its sign
extension. STOP keeps the byte it skips (R342).
The order is that of the table indices, but for the eleven undefined bytes (R133), which stand last.
-/

namespace Sys2Proof

/-- The registers of the field `r8[k]` (R126); code 6 is no register but `(HL)`. -/
inductive R8 where
  | b | c | d | e | h | l | a
deriving DecidableEq, Repr, Inhabited

/-- The field `r16[k]` (R127). -/
inductive R16 where
  | bc | de | hl | sp
deriving DecidableEq, Repr, Inhabited

/-- The field `r16stk[k]` (R128). -/
inductive R16Stk where
  | bc | de | hl | af
deriving DecidableEq, Repr, Inhabited

/-- The condition field `cc` (R129). -/
inductive Cond where
  | nz | z | nc | c
deriving DecidableEq, Repr, Inhabited

/-- The bit-number field `bbb` and the RST field `ttt` (R131): 0..7. -/
inductive Bit3 where
  | b0 | b1 | b2 | b3 | b4 | b5 | b6 | b7
deriving DecidableEq, Repr, Inhabited

/-- The ALU-operation field `ooo` of `10ooosss` and `11ooo110` (R123, R243 to R266). -/
inductive AluOp where
  | add | adc | sub | sbc | and | xor | or | cp
deriving DecidableEq, Repr, Inhabited

/-- The rotate and shift kinds of R290, in the order of the field `ooo` of `00ooosss`. -/
inductive ShiftKind where
  | rlc | rrc | rl | rr | sla | sra | swap | srl
deriving DecidableEq, Repr, Inhabited

/-- The instructions: table indices 0x000..0x0FF, then 0x100..0x1FF (the entries after 0xCB). -/
inductive Instr where
  /-- NOP (R340), index 0x000 -/
  | nop
  /-- LD BC,n16 (R221), index 0x001 -/
  | ldBcN16 (n16 : Word)
  /-- LD (BC),A (R209), index 0x002 -/
  | ldAtBcA
  /-- INC BC (R281), index 0x003 -/
  | incBc
  /-- INC B (R267), index 0x004 -/
  | incB
  /-- DEC B (R269), index 0x005 -/
  | decB
  /-- LD B,n8 (R203), index 0x006 -/
  | ldBN8 (n8 : Byte)
  /-- RLCA (R291), index 0x007 -/
  | rlca
  /-- LD (n16),SP (R222), index 0x008 -/
  | ldAtN16Sp (n16 : Word)
  /-- ADD HL,BC (R283), index 0x009 -/
  | addHlBc
  /-- LD A,(BC) (R207), index 0x00A -/
  | ldAAtBc
  /-- DEC BC (R282), index 0x00B -/
  | decBc
  /-- INC C (R267), index 0x00C -/
  | incC
  /-- DEC C (R269), index 0x00D -/
  | decC
  /-- LD C,n8 (R203), index 0x00E -/
  | ldCN8 (n8 : Byte)
  /-- RRCA (R292), index 0x00F -/
  | rrca
  /-- STOP (R342), index 0x010 -/
  | stop (n8 : Byte)
  /-- LD DE,n16 (R221), index 0x011 -/
  | ldDeN16 (n16 : Word)
  /-- LD (DE),A (R210), index 0x012 -/
  | ldAtDeA
  /-- INC DE (R281), index 0x013 -/
  | incDe
  /-- INC D (R267), index 0x014 -/
  | incD
  /-- DEC D (R269), index 0x015 -/
  | decD
  /-- LD D,n8 (R203), index 0x016 -/
  | ldDN8 (n8 : Byte)
  /-- RLA (R293), index 0x017 -/
  | rla
  /-- JR e8 (R323), index 0x018 -/
  | jrE8 (e8 : Byte)
  /-- ADD HL,DE (R283), index 0x019 -/
  | addHlDe
  /-- LD A,(DE) (R208), index 0x01A -/
  | ldAAtDe
  /-- DEC DE (R282), index 0x01B -/
  | decDe
  /-- INC E (R267), index 0x01C -/
  | incE
  /-- DEC E (R269), index 0x01D -/
  | decE
  /-- LD E,n8 (R203), index 0x01E -/
  | ldEN8 (n8 : Byte)
  /-- RRA (R294), index 0x01F -/
  | rra
  /-- JR NZ,e8 (R324), index 0x020 -/
  | jrNzE8 (e8 : Byte)
  /-- LD HL,n16 (R221), index 0x021 -/
  | ldHlN16 (n16 : Word)
  /-- LD (HL+),A (R219), index 0x022 -/
  | ldAtHlIncA
  /-- INC HL (R281), index 0x023 -/
  | incHl
  /-- INC H (R267), index 0x024 -/
  | incH
  /-- DEC H (R269), index 0x025 -/
  | decH
  /-- LD H,n8 (R203), index 0x026 -/
  | ldHN8 (n8 : Byte)
  /-- DAA (R271), index 0x027 -/
  | daa
  /-- JR Z,e8 (R324), index 0x028 -/
  | jrZE8 (e8 : Byte)
  /-- ADD HL,HL (R283), index 0x029 -/
  | addHlHl
  /-- LD A,(HL+) (R217), index 0x02A -/
  | ldAAtHlInc
  /-- DEC HL (R282), index 0x02B -/
  | decHl
  /-- INC L (R267), index 0x02C -/
  | incL
  /-- DEC L (R269), index 0x02D -/
  | decL
  /-- LD L,n8 (R203), index 0x02E -/
  | ldLN8 (n8 : Byte)
  /-- CPL (R272), index 0x02F -/
  | cpl
  /-- JR NC,e8 (R324), index 0x030 -/
  | jrNcE8 (e8 : Byte)
  /-- LD SP,n16 (R221), index 0x031 -/
  | ldSpN16 (n16 : Word)
  /-- LD (HL-),A (R220), index 0x032 -/
  | ldAtHlDecA
  /-- INC SP (R281), index 0x033 -/
  | incSp
  /-- INC (HL) (R268), index 0x034 -/
  | incAtHl
  /-- DEC (HL) (R270), index 0x035 -/
  | decAtHl
  /-- LD (HL),n8 (R206), index 0x036 -/
  | ldAtHlN8 (n8 : Byte)
  /-- SCF (R273), index 0x037 -/
  | scf
  /-- JR C,e8 (R324), index 0x038 -/
  | jrCE8 (e8 : Byte)
  /-- ADD HL,SP (R283), index 0x039 -/
  | addHlSp
  /-- LD A,(HL-) (R218), index 0x03A -/
  | ldAAtHlDec
  /-- DEC SP (R282), index 0x03B -/
  | decSp
  /-- INC A (R267), index 0x03C -/
  | incA
  /-- DEC A (R269), index 0x03D -/
  | decA
  /-- LD A,n8 (R203), index 0x03E -/
  | ldAN8 (n8 : Byte)
  /-- CCF (R274), index 0x03F -/
  | ccf
  /-- LD B,B (R202), index 0x040 -/
  | ldBB
  /-- LD B,C (R202), index 0x041 -/
  | ldBC
  /-- LD B,D (R202), index 0x042 -/
  | ldBD
  /-- LD B,E (R202), index 0x043 -/
  | ldBE
  /-- LD B,H (R202), index 0x044 -/
  | ldBH
  /-- LD B,L (R202), index 0x045 -/
  | ldBL
  /-- LD B,(HL) (R204), index 0x046 -/
  | ldBAtHl
  /-- LD B,A (R202), index 0x047 -/
  | ldBA
  /-- LD C,B (R202), index 0x048 -/
  | ldCB
  /-- LD C,C (R202), index 0x049 -/
  | ldCC
  /-- LD C,D (R202), index 0x04A -/
  | ldCD
  /-- LD C,E (R202), index 0x04B -/
  | ldCE
  /-- LD C,H (R202), index 0x04C -/
  | ldCH
  /-- LD C,L (R202), index 0x04D -/
  | ldCL
  /-- LD C,(HL) (R204), index 0x04E -/
  | ldCAtHl
  /-- LD C,A (R202), index 0x04F -/
  | ldCA
  /-- LD D,B (R202), index 0x050 -/
  | ldDB
  /-- LD D,C (R202), index 0x051 -/
  | ldDC
  /-- LD D,D (R202), index 0x052 -/
  | ldDD
  /-- LD D,E (R202), index 0x053 -/
  | ldDE
  /-- LD D,H (R202), index 0x054 -/
  | ldDH
  /-- LD D,L (R202), index 0x055 -/
  | ldDL
  /-- LD D,(HL) (R204), index 0x056 -/
  | ldDAtHl
  /-- LD D,A (R202), index 0x057 -/
  | ldDA
  /-- LD E,B (R202), index 0x058 -/
  | ldEB
  /-- LD E,C (R202), index 0x059 -/
  | ldEC
  /-- LD E,D (R202), index 0x05A -/
  | ldED
  /-- LD E,E (R202), index 0x05B -/
  | ldEE
  /-- LD E,H (R202), index 0x05C -/
  | ldEH
  /-- LD E,L (R202), index 0x05D -/
  | ldEL
  /-- LD E,(HL) (R204), index 0x05E -/
  | ldEAtHl
  /-- LD E,A (R202), index 0x05F -/
  | ldEA
  /-- LD H,B (R202), index 0x060 -/
  | ldHB
  /-- LD H,C (R202), index 0x061 -/
  | ldHC
  /-- LD H,D (R202), index 0x062 -/
  | ldHD
  /-- LD H,E (R202), index 0x063 -/
  | ldHE
  /-- LD H,H (R202), index 0x064 -/
  | ldHH
  /-- LD H,L (R202), index 0x065 -/
  | ldHL
  /-- LD H,(HL) (R204), index 0x066 -/
  | ldHAtHl
  /-- LD H,A (R202), index 0x067 -/
  | ldHA
  /-- LD L,B (R202), index 0x068 -/
  | ldLB
  /-- LD L,C (R202), index 0x069 -/
  | ldLC
  /-- LD L,D (R202), index 0x06A -/
  | ldLD
  /-- LD L,E (R202), index 0x06B -/
  | ldLE
  /-- LD L,H (R202), index 0x06C -/
  | ldLH
  /-- LD L,L (R202), index 0x06D -/
  | ldLL
  /-- LD L,(HL) (R204), index 0x06E -/
  | ldLAtHl
  /-- LD L,A (R202), index 0x06F -/
  | ldLA
  /-- LD (HL),B (R205), index 0x070 -/
  | ldAtHlB
  /-- LD (HL),C (R205), index 0x071 -/
  | ldAtHlC
  /-- LD (HL),D (R205), index 0x072 -/
  | ldAtHlD
  /-- LD (HL),E (R205), index 0x073 -/
  | ldAtHlE
  /-- LD (HL),H (R205), index 0x074 -/
  | ldAtHlH
  /-- LD (HL),L (R205), index 0x075 -/
  | ldAtHlL
  /-- HALT (R341), index 0x076 -/
  | halt
  /-- LD (HL),A (R205), index 0x077 -/
  | ldAtHlA
  /-- LD A,B (R202), index 0x078 -/
  | ldAB
  /-- LD A,C (R202), index 0x079 -/
  | ldAC
  /-- LD A,D (R202), index 0x07A -/
  | ldAD
  /-- LD A,E (R202), index 0x07B -/
  | ldAE
  /-- LD A,H (R202), index 0x07C -/
  | ldAH
  /-- LD A,L (R202), index 0x07D -/
  | ldAL
  /-- LD A,(HL) (R204), index 0x07E -/
  | ldAAtHl
  /-- LD A,A (R202), index 0x07F -/
  | ldAA
  /-- ADD A,B (R243), index 0x080 -/
  | addAB
  /-- ADD A,C (R243), index 0x081 -/
  | addAC
  /-- ADD A,D (R243), index 0x082 -/
  | addAD
  /-- ADD A,E (R243), index 0x083 -/
  | addAE
  /-- ADD A,H (R243), index 0x084 -/
  | addAH
  /-- ADD A,L (R243), index 0x085 -/
  | addAL
  /-- ADD A,(HL) (R244), index 0x086 -/
  | addAAtHl
  /-- ADD A,A (R243), index 0x087 -/
  | addAA
  /-- ADC A,B (R246), index 0x088 -/
  | adcAB
  /-- ADC A,C (R246), index 0x089 -/
  | adcAC
  /-- ADC A,D (R246), index 0x08A -/
  | adcAD
  /-- ADC A,E (R246), index 0x08B -/
  | adcAE
  /-- ADC A,H (R246), index 0x08C -/
  | adcAH
  /-- ADC A,L (R246), index 0x08D -/
  | adcAL
  /-- ADC A,(HL) (R247), index 0x08E -/
  | adcAAtHl
  /-- ADC A,A (R246), index 0x08F -/
  | adcAA
  /-- SUB A,B (R249), index 0x090 -/
  | subAB
  /-- SUB A,C (R249), index 0x091 -/
  | subAC
  /-- SUB A,D (R249), index 0x092 -/
  | subAD
  /-- SUB A,E (R249), index 0x093 -/
  | subAE
  /-- SUB A,H (R249), index 0x094 -/
  | subAH
  /-- SUB A,L (R249), index 0x095 -/
  | subAL
  /-- SUB A,(HL) (R250), index 0x096 -/
  | subAAtHl
  /-- SUB A,A (R249), index 0x097 -/
  | subAA
  /-- SBC A,B (R252), index 0x098 -/
  | sbcAB
  /-- SBC A,C (R252), index 0x099 -/
  | sbcAC
  /-- SBC A,D (R252), index 0x09A -/
  | sbcAD
  /-- SBC A,E (R252), index 0x09B -/
  | sbcAE
  /-- SBC A,H (R252), index 0x09C -/
  | sbcAH
  /-- SBC A,L (R252), index 0x09D -/
  | sbcAL
  /-- SBC A,(HL) (R253), index 0x09E -/
  | sbcAAtHl
  /-- SBC A,A (R252), index 0x09F -/
  | sbcAA
  /-- AND A,B (R255), index 0x0A0 -/
  | andAB
  /-- AND A,C (R255), index 0x0A1 -/
  | andAC
  /-- AND A,D (R255), index 0x0A2 -/
  | andAD
  /-- AND A,E (R255), index 0x0A3 -/
  | andAE
  /-- AND A,H (R255), index 0x0A4 -/
  | andAH
  /-- AND A,L (R255), index 0x0A5 -/
  | andAL
  /-- AND A,(HL) (R256), index 0x0A6 -/
  | andAAtHl
  /-- AND A,A (R255), index 0x0A7 -/
  | andAA
  /-- XOR A,B (R258), index 0x0A8 -/
  | xorAB
  /-- XOR A,C (R258), index 0x0A9 -/
  | xorAC
  /-- XOR A,D (R258), index 0x0AA -/
  | xorAD
  /-- XOR A,E (R258), index 0x0AB -/
  | xorAE
  /-- XOR A,H (R258), index 0x0AC -/
  | xorAH
  /-- XOR A,L (R258), index 0x0AD -/
  | xorAL
  /-- XOR A,(HL) (R259), index 0x0AE -/
  | xorAAtHl
  /-- XOR A,A (R258), index 0x0AF -/
  | xorAA
  /-- OR A,B (R261), index 0x0B0 -/
  | orAB
  /-- OR A,C (R261), index 0x0B1 -/
  | orAC
  /-- OR A,D (R261), index 0x0B2 -/
  | orAD
  /-- OR A,E (R261), index 0x0B3 -/
  | orAE
  /-- OR A,H (R261), index 0x0B4 -/
  | orAH
  /-- OR A,L (R261), index 0x0B5 -/
  | orAL
  /-- OR A,(HL) (R262), index 0x0B6 -/
  | orAAtHl
  /-- OR A,A (R261), index 0x0B7 -/
  | orAA
  /-- CP A,B (R264), index 0x0B8 -/
  | cpAB
  /-- CP A,C (R264), index 0x0B9 -/
  | cpAC
  /-- CP A,D (R264), index 0x0BA -/
  | cpAD
  /-- CP A,E (R264), index 0x0BB -/
  | cpAE
  /-- CP A,H (R264), index 0x0BC -/
  | cpAH
  /-- CP A,L (R264), index 0x0BD -/
  | cpAL
  /-- CP A,(HL) (R265), index 0x0BE -/
  | cpAAtHl
  /-- CP A,A (R264), index 0x0BF -/
  | cpAA
  /-- RET NZ (R328), index 0x0C0 -/
  | retNz
  /-- POP BC (R224), index 0x0C1 -/
  | popBc
  /-- JP NZ,n16 (R321), index 0x0C2 -/
  | jpNzN16 (n16 : Word)
  /-- JP n16 (R320), index 0x0C3 -/
  | jpN16 (n16 : Word)
  /-- CALL NZ,n16 (R326), index 0x0C4 -/
  | callNzN16 (n16 : Word)
  /-- PUSH BC (R226), index 0x0C5 -/
  | pushBc
  /-- ADD A,n8 (R245), index 0x0C6 -/
  | addAN8 (n8 : Byte)
  /-- RST 0x00 (R330), index 0x0C7 -/
  | rst00
  /-- RET Z (R328), index 0x0C8 -/
  | retZ
  /-- RET (R327), index 0x0C9 -/
  | ret
  /-- JP Z,n16 (R321), index 0x0CA -/
  | jpZN16 (n16 : Word)
  /-- PREFIX CB (R345), index 0x0CB -/
  | prefixCb
  /-- CALL Z,n16 (R326), index 0x0CC -/
  | callZN16 (n16 : Word)
  /-- CALL n16 (R325), index 0x0CD -/
  | callN16 (n16 : Word)
  /-- ADC A,n8 (R248), index 0x0CE -/
  | adcAN8 (n8 : Byte)
  /-- RST 0x08 (R330), index 0x0CF -/
  | rst08
  /-- RET NC (R328), index 0x0D0 -/
  | retNc
  /-- POP DE (R224), index 0x0D1 -/
  | popDe
  /-- JP NC,n16 (R321), index 0x0D2 -/
  | jpNcN16 (n16 : Word)
  /-- CALL NC,n16 (R326), index 0x0D4 -/
  | callNcN16 (n16 : Word)
  /-- PUSH DE (R226), index 0x0D5 -/
  | pushDe
  /-- SUB A,n8 (R251), index 0x0D6 -/
  | subAN8 (n8 : Byte)
  /-- RST 0x10 (R330), index 0x0D7 -/
  | rst10
  /-- RET C (R328), index 0x0D8 -/
  | retC
  /-- RETI (R329), index 0x0D9 -/
  | reti
  /-- JP C,n16 (R321), index 0x0DA -/
  | jpCN16 (n16 : Word)
  /-- CALL C,n16 (R326), index 0x0DC -/
  | callCN16 (n16 : Word)
  /-- SBC A,n8 (R254), index 0x0DE -/
  | sbcAN8 (n8 : Byte)
  /-- RST 0x18 (R330), index 0x0DF -/
  | rst18
  /-- LDH (n8),A (R216), index 0x0E0 -/
  | ldhAtN8A (n8 : Byte)
  /-- POP HL (R224), index 0x0E1 -/
  | popHl
  /-- LDH (C),A (R214), index 0x0E2 -/
  | ldhAtCA
  /-- PUSH HL (R226), index 0x0E5 -/
  | pushHl
  /-- AND A,n8 (R257), index 0x0E6 -/
  | andAN8 (n8 : Byte)
  /-- RST 0x20 (R330), index 0x0E7 -/
  | rst20
  /-- ADD SP,e8 (R284), index 0x0E8 -/
  | addSpE8 (e8 : Byte)
  /-- JP HL (R322), index 0x0E9 -/
  | jpHl
  /-- LD (n16),A (R212), index 0x0EA -/
  | ldAtN16A (n16 : Word)
  /-- XOR A,n8 (R260), index 0x0EE -/
  | xorAN8 (n8 : Byte)
  /-- RST 0x28 (R330), index 0x0EF -/
  | rst28
  /-- LDH A,(n8) (R215), index 0x0F0 -/
  | ldhAAtN8 (n8 : Byte)
  /-- POP AF (R225), index 0x0F1 -/
  | popAf
  /-- LDH A,(C) (R213), index 0x0F2 -/
  | ldhAAtC
  /-- DI (R343), index 0x0F3 -/
  | di
  /-- PUSH AF (R226), index 0x0F5 -/
  | pushAf
  /-- OR A,n8 (R263), index 0x0F6 -/
  | orAN8 (n8 : Byte)
  /-- RST 0x30 (R330), index 0x0F7 -/
  | rst30
  /-- LD HL,SP+e8 (R285), index 0x0F8 -/
  | ldHlSpE8 (e8 : Byte)
  /-- LD SP,HL (R223), index 0x0F9 -/
  | ldSpHl
  /-- LD A,(n16) (R211), index 0x0FA -/
  | ldAAtN16 (n16 : Word)
  /-- EI (R344), index 0x0FB -/
  | ei
  /-- CP A,n8 (R266), index 0x0FE -/
  | cpAN8 (n8 : Byte)
  /-- RST 0x38 (R330), index 0x0FF -/
  | rst38
  /-- RLC B (R295), index 0x100 -/
  | rlcB
  /-- RLC C (R295), index 0x101 -/
  | rlcC
  /-- RLC D (R295), index 0x102 -/
  | rlcD
  /-- RLC E (R295), index 0x103 -/
  | rlcE
  /-- RLC H (R295), index 0x104 -/
  | rlcH
  /-- RLC L (R295), index 0x105 -/
  | rlcL
  /-- RLC (HL) (R296), index 0x106 -/
  | rlcAtHl
  /-- RLC A (R295), index 0x107 -/
  | rlcA
  /-- RRC B (R297), index 0x108 -/
  | rrcB
  /-- RRC C (R297), index 0x109 -/
  | rrcC
  /-- RRC D (R297), index 0x10A -/
  | rrcD
  /-- RRC E (R297), index 0x10B -/
  | rrcE
  /-- RRC H (R297), index 0x10C -/
  | rrcH
  /-- RRC L (R297), index 0x10D -/
  | rrcL
  /-- RRC (HL) (R298), index 0x10E -/
  | rrcAtHl
  /-- RRC A (R297), index 0x10F -/
  | rrcA
  /-- RL B (R299), index 0x110 -/
  | rlB
  /-- RL C (R299), index 0x111 -/
  | rlC
  /-- RL D (R299), index 0x112 -/
  | rlD
  /-- RL E (R299), index 0x113 -/
  | rlE
  /-- RL H (R299), index 0x114 -/
  | rlH
  /-- RL L (R299), index 0x115 -/
  | rlL
  /-- RL (HL) (R300), index 0x116 -/
  | rlAtHl
  /-- RL A (R299), index 0x117 -/
  | rlA
  /-- RR B (R301), index 0x118 -/
  | rrB
  /-- RR C (R301), index 0x119 -/
  | rrC
  /-- RR D (R301), index 0x11A -/
  | rrD
  /-- RR E (R301), index 0x11B -/
  | rrE
  /-- RR H (R301), index 0x11C -/
  | rrH
  /-- RR L (R301), index 0x11D -/
  | rrL
  /-- RR (HL) (R302), index 0x11E -/
  | rrAtHl
  /-- RR A (R301), index 0x11F -/
  | rrA
  /-- SLA B (R303), index 0x120 -/
  | slaB
  /-- SLA C (R303), index 0x121 -/
  | slaC
  /-- SLA D (R303), index 0x122 -/
  | slaD
  /-- SLA E (R303), index 0x123 -/
  | slaE
  /-- SLA H (R303), index 0x124 -/
  | slaH
  /-- SLA L (R303), index 0x125 -/
  | slaL
  /-- SLA (HL) (R304), index 0x126 -/
  | slaAtHl
  /-- SLA A (R303), index 0x127 -/
  | slaA
  /-- SRA B (R305), index 0x128 -/
  | sraB
  /-- SRA C (R305), index 0x129 -/
  | sraC
  /-- SRA D (R305), index 0x12A -/
  | sraD
  /-- SRA E (R305), index 0x12B -/
  | sraE
  /-- SRA H (R305), index 0x12C -/
  | sraH
  /-- SRA L (R305), index 0x12D -/
  | sraL
  /-- SRA (HL) (R306), index 0x12E -/
  | sraAtHl
  /-- SRA A (R305), index 0x12F -/
  | sraA
  /-- SWAP B (R307), index 0x130 -/
  | swapB
  /-- SWAP C (R307), index 0x131 -/
  | swapC
  /-- SWAP D (R307), index 0x132 -/
  | swapD
  /-- SWAP E (R307), index 0x133 -/
  | swapE
  /-- SWAP H (R307), index 0x134 -/
  | swapH
  /-- SWAP L (R307), index 0x135 -/
  | swapL
  /-- SWAP (HL) (R308), index 0x136 -/
  | swapAtHl
  /-- SWAP A (R307), index 0x137 -/
  | swapA
  /-- SRL B (R309), index 0x138 -/
  | srlB
  /-- SRL C (R309), index 0x139 -/
  | srlC
  /-- SRL D (R309), index 0x13A -/
  | srlD
  /-- SRL E (R309), index 0x13B -/
  | srlE
  /-- SRL H (R309), index 0x13C -/
  | srlH
  /-- SRL L (R309), index 0x13D -/
  | srlL
  /-- SRL (HL) (R310), index 0x13E -/
  | srlAtHl
  /-- SRL A (R309), index 0x13F -/
  | srlA
  /-- BIT 0,B (R311), index 0x140 -/
  | bit0B
  /-- BIT 0,C (R311), index 0x141 -/
  | bit0C
  /-- BIT 0,D (R311), index 0x142 -/
  | bit0D
  /-- BIT 0,E (R311), index 0x143 -/
  | bit0E
  /-- BIT 0,H (R311), index 0x144 -/
  | bit0H
  /-- BIT 0,L (R311), index 0x145 -/
  | bit0L
  /-- BIT 0,(HL) (R312), index 0x146 -/
  | bit0AtHl
  /-- BIT 0,A (R311), index 0x147 -/
  | bit0A
  /-- BIT 1,B (R311), index 0x148 -/
  | bit1B
  /-- BIT 1,C (R311), index 0x149 -/
  | bit1C
  /-- BIT 1,D (R311), index 0x14A -/
  | bit1D
  /-- BIT 1,E (R311), index 0x14B -/
  | bit1E
  /-- BIT 1,H (R311), index 0x14C -/
  | bit1H
  /-- BIT 1,L (R311), index 0x14D -/
  | bit1L
  /-- BIT 1,(HL) (R312), index 0x14E -/
  | bit1AtHl
  /-- BIT 1,A (R311), index 0x14F -/
  | bit1A
  /-- BIT 2,B (R311), index 0x150 -/
  | bit2B
  /-- BIT 2,C (R311), index 0x151 -/
  | bit2C
  /-- BIT 2,D (R311), index 0x152 -/
  | bit2D
  /-- BIT 2,E (R311), index 0x153 -/
  | bit2E
  /-- BIT 2,H (R311), index 0x154 -/
  | bit2H
  /-- BIT 2,L (R311), index 0x155 -/
  | bit2L
  /-- BIT 2,(HL) (R312), index 0x156 -/
  | bit2AtHl
  /-- BIT 2,A (R311), index 0x157 -/
  | bit2A
  /-- BIT 3,B (R311), index 0x158 -/
  | bit3B
  /-- BIT 3,C (R311), index 0x159 -/
  | bit3C
  /-- BIT 3,D (R311), index 0x15A -/
  | bit3D
  /-- BIT 3,E (R311), index 0x15B -/
  | bit3E
  /-- BIT 3,H (R311), index 0x15C -/
  | bit3H
  /-- BIT 3,L (R311), index 0x15D -/
  | bit3L
  /-- BIT 3,(HL) (R312), index 0x15E -/
  | bit3AtHl
  /-- BIT 3,A (R311), index 0x15F -/
  | bit3A
  /-- BIT 4,B (R311), index 0x160 -/
  | bit4B
  /-- BIT 4,C (R311), index 0x161 -/
  | bit4C
  /-- BIT 4,D (R311), index 0x162 -/
  | bit4D
  /-- BIT 4,E (R311), index 0x163 -/
  | bit4E
  /-- BIT 4,H (R311), index 0x164 -/
  | bit4H
  /-- BIT 4,L (R311), index 0x165 -/
  | bit4L
  /-- BIT 4,(HL) (R312), index 0x166 -/
  | bit4AtHl
  /-- BIT 4,A (R311), index 0x167 -/
  | bit4A
  /-- BIT 5,B (R311), index 0x168 -/
  | bit5B
  /-- BIT 5,C (R311), index 0x169 -/
  | bit5C
  /-- BIT 5,D (R311), index 0x16A -/
  | bit5D
  /-- BIT 5,E (R311), index 0x16B -/
  | bit5E
  /-- BIT 5,H (R311), index 0x16C -/
  | bit5H
  /-- BIT 5,L (R311), index 0x16D -/
  | bit5L
  /-- BIT 5,(HL) (R312), index 0x16E -/
  | bit5AtHl
  /-- BIT 5,A (R311), index 0x16F -/
  | bit5A
  /-- BIT 6,B (R311), index 0x170 -/
  | bit6B
  /-- BIT 6,C (R311), index 0x171 -/
  | bit6C
  /-- BIT 6,D (R311), index 0x172 -/
  | bit6D
  /-- BIT 6,E (R311), index 0x173 -/
  | bit6E
  /-- BIT 6,H (R311), index 0x174 -/
  | bit6H
  /-- BIT 6,L (R311), index 0x175 -/
  | bit6L
  /-- BIT 6,(HL) (R312), index 0x176 -/
  | bit6AtHl
  /-- BIT 6,A (R311), index 0x177 -/
  | bit6A
  /-- BIT 7,B (R311), index 0x178 -/
  | bit7B
  /-- BIT 7,C (R311), index 0x179 -/
  | bit7C
  /-- BIT 7,D (R311), index 0x17A -/
  | bit7D
  /-- BIT 7,E (R311), index 0x17B -/
  | bit7E
  /-- BIT 7,H (R311), index 0x17C -/
  | bit7H
  /-- BIT 7,L (R311), index 0x17D -/
  | bit7L
  /-- BIT 7,(HL) (R312), index 0x17E -/
  | bit7AtHl
  /-- BIT 7,A (R311), index 0x17F -/
  | bit7A
  /-- RES 0,B (R313), index 0x180 -/
  | res0B
  /-- RES 0,C (R313), index 0x181 -/
  | res0C
  /-- RES 0,D (R313), index 0x182 -/
  | res0D
  /-- RES 0,E (R313), index 0x183 -/
  | res0E
  /-- RES 0,H (R313), index 0x184 -/
  | res0H
  /-- RES 0,L (R313), index 0x185 -/
  | res0L
  /-- RES 0,(HL) (R314), index 0x186 -/
  | res0AtHl
  /-- RES 0,A (R313), index 0x187 -/
  | res0A
  /-- RES 1,B (R313), index 0x188 -/
  | res1B
  /-- RES 1,C (R313), index 0x189 -/
  | res1C
  /-- RES 1,D (R313), index 0x18A -/
  | res1D
  /-- RES 1,E (R313), index 0x18B -/
  | res1E
  /-- RES 1,H (R313), index 0x18C -/
  | res1H
  /-- RES 1,L (R313), index 0x18D -/
  | res1L
  /-- RES 1,(HL) (R314), index 0x18E -/
  | res1AtHl
  /-- RES 1,A (R313), index 0x18F -/
  | res1A
  /-- RES 2,B (R313), index 0x190 -/
  | res2B
  /-- RES 2,C (R313), index 0x191 -/
  | res2C
  /-- RES 2,D (R313), index 0x192 -/
  | res2D
  /-- RES 2,E (R313), index 0x193 -/
  | res2E
  /-- RES 2,H (R313), index 0x194 -/
  | res2H
  /-- RES 2,L (R313), index 0x195 -/
  | res2L
  /-- RES 2,(HL) (R314), index 0x196 -/
  | res2AtHl
  /-- RES 2,A (R313), index 0x197 -/
  | res2A
  /-- RES 3,B (R313), index 0x198 -/
  | res3B
  /-- RES 3,C (R313), index 0x199 -/
  | res3C
  /-- RES 3,D (R313), index 0x19A -/
  | res3D
  /-- RES 3,E (R313), index 0x19B -/
  | res3E
  /-- RES 3,H (R313), index 0x19C -/
  | res3H
  /-- RES 3,L (R313), index 0x19D -/
  | res3L
  /-- RES 3,(HL) (R314), index 0x19E -/
  | res3AtHl
  /-- RES 3,A (R313), index 0x19F -/
  | res3A
  /-- RES 4,B (R313), index 0x1A0 -/
  | res4B
  /-- RES 4,C (R313), index 0x1A1 -/
  | res4C
  /-- RES 4,D (R313), index 0x1A2 -/
  | res4D
  /-- RES 4,E (R313), index 0x1A3 -/
  | res4E
  /-- RES 4,H (R313), index 0x1A4 -/
  | res4H
  /-- RES 4,L (R313), index 0x1A5 -/
  | res4L
  /-- RES 4,(HL) (R314), index 0x1A6 -/
  | res4AtHl
  /-- RES 4,A (R313), index 0x1A7 -/
  | res4A
  /-- RES 5,B (R313), index 0x1A8 -/
  | res5B
  /-- RES 5,C (R313), index 0x1A9 -/
  | res5C
  /-- RES 5,D (R313), index 0x1AA -/
  | res5D
  /-- RES 5,E (R313), index 0x1AB -/
  | res5E
  /-- RES 5,H (R313), index 0x1AC -/
  | res5H
  /-- RES 5,L (R313), index 0x1AD -/
  | res5L
  /-- RES 5,(HL) (R314), index 0x1AE -/
  | res5AtHl
  /-- RES 5,A (R313), index 0x1AF -/
  | res5A
  /-- RES 6,B (R313), index 0x1B0 -/
  | res6B
  /-- RES 6,C (R313), index 0x1B1 -/
  | res6C
  /-- RES 6,D (R313), index 0x1B2 -/
  | res6D
  /-- RES 6,E (R313), index 0x1B3 -/
  | res6E
  /-- RES 6,H (R313), index 0x1B4 -/
  | res6H
  /-- RES 6,L (R313), index 0x1B5 -/
  | res6L
  /-- RES 6,(HL) (R314), index 0x1B6 -/
  | res6AtHl
  /-- RES 6,A (R313), index 0x1B7 -/
  | res6A
  /-- RES 7,B (R313), index 0x1B8 -/
  | res7B
  /-- RES 7,C (R313), index 0x1B9 -/
  | res7C
  /-- RES 7,D (R313), index 0x1BA -/
  | res7D
  /-- RES 7,E (R313), index 0x1BB -/
  | res7E
  /-- RES 7,H (R313), index 0x1BC -/
  | res7H
  /-- RES 7,L (R313), index 0x1BD -/
  | res7L
  /-- RES 7,(HL) (R314), index 0x1BE -/
  | res7AtHl
  /-- RES 7,A (R313), index 0x1BF -/
  | res7A
  /-- SET 0,B (R315), index 0x1C0 -/
  | set0B
  /-- SET 0,C (R315), index 0x1C1 -/
  | set0C
  /-- SET 0,D (R315), index 0x1C2 -/
  | set0D
  /-- SET 0,E (R315), index 0x1C3 -/
  | set0E
  /-- SET 0,H (R315), index 0x1C4 -/
  | set0H
  /-- SET 0,L (R315), index 0x1C5 -/
  | set0L
  /-- SET 0,(HL) (R316), index 0x1C6 -/
  | set0AtHl
  /-- SET 0,A (R315), index 0x1C7 -/
  | set0A
  /-- SET 1,B (R315), index 0x1C8 -/
  | set1B
  /-- SET 1,C (R315), index 0x1C9 -/
  | set1C
  /-- SET 1,D (R315), index 0x1CA -/
  | set1D
  /-- SET 1,E (R315), index 0x1CB -/
  | set1E
  /-- SET 1,H (R315), index 0x1CC -/
  | set1H
  /-- SET 1,L (R315), index 0x1CD -/
  | set1L
  /-- SET 1,(HL) (R316), index 0x1CE -/
  | set1AtHl
  /-- SET 1,A (R315), index 0x1CF -/
  | set1A
  /-- SET 2,B (R315), index 0x1D0 -/
  | set2B
  /-- SET 2,C (R315), index 0x1D1 -/
  | set2C
  /-- SET 2,D (R315), index 0x1D2 -/
  | set2D
  /-- SET 2,E (R315), index 0x1D3 -/
  | set2E
  /-- SET 2,H (R315), index 0x1D4 -/
  | set2H
  /-- SET 2,L (R315), index 0x1D5 -/
  | set2L
  /-- SET 2,(HL) (R316), index 0x1D6 -/
  | set2AtHl
  /-- SET 2,A (R315), index 0x1D7 -/
  | set2A
  /-- SET 3,B (R315), index 0x1D8 -/
  | set3B
  /-- SET 3,C (R315), index 0x1D9 -/
  | set3C
  /-- SET 3,D (R315), index 0x1DA -/
  | set3D
  /-- SET 3,E (R315), index 0x1DB -/
  | set3E
  /-- SET 3,H (R315), index 0x1DC -/
  | set3H
  /-- SET 3,L (R315), index 0x1DD -/
  | set3L
  /-- SET 3,(HL) (R316), index 0x1DE -/
  | set3AtHl
  /-- SET 3,A (R315), index 0x1DF -/
  | set3A
  /-- SET 4,B (R315), index 0x1E0 -/
  | set4B
  /-- SET 4,C (R315), index 0x1E1 -/
  | set4C
  /-- SET 4,D (R315), index 0x1E2 -/
  | set4D
  /-- SET 4,E (R315), index 0x1E3 -/
  | set4E
  /-- SET 4,H (R315), index 0x1E4 -/
  | set4H
  /-- SET 4,L (R315), index 0x1E5 -/
  | set4L
  /-- SET 4,(HL) (R316), index 0x1E6 -/
  | set4AtHl
  /-- SET 4,A (R315), index 0x1E7 -/
  | set4A
  /-- SET 5,B (R315), index 0x1E8 -/
  | set5B
  /-- SET 5,C (R315), index 0x1E9 -/
  | set5C
  /-- SET 5,D (R315), index 0x1EA -/
  | set5D
  /-- SET 5,E (R315), index 0x1EB -/
  | set5E
  /-- SET 5,H (R315), index 0x1EC -/
  | set5H
  /-- SET 5,L (R315), index 0x1ED -/
  | set5L
  /-- SET 5,(HL) (R316), index 0x1EE -/
  | set5AtHl
  /-- SET 5,A (R315), index 0x1EF -/
  | set5A
  /-- SET 6,B (R315), index 0x1F0 -/
  | set6B
  /-- SET 6,C (R315), index 0x1F1 -/
  | set6C
  /-- SET 6,D (R315), index 0x1F2 -/
  | set6D
  /-- SET 6,E (R315), index 0x1F3 -/
  | set6E
  /-- SET 6,H (R315), index 0x1F4 -/
  | set6H
  /-- SET 6,L (R315), index 0x1F5 -/
  | set6L
  /-- SET 6,(HL) (R316), index 0x1F6 -/
  | set6AtHl
  /-- SET 6,A (R315), index 0x1F7 -/
  | set6A
  /-- SET 7,B (R315), index 0x1F8 -/
  | set7B
  /-- SET 7,C (R315), index 0x1F9 -/
  | set7C
  /-- SET 7,D (R315), index 0x1FA -/
  | set7D
  /-- SET 7,E (R315), index 0x1FB -/
  | set7E
  /-- SET 7,H (R315), index 0x1FC -/
  | set7H
  /-- SET 7,L (R315), index 0x1FD -/
  | set7L
  /-- SET 7,(HL) (R316), index 0x1FE -/
  | set7AtHl
  /-- SET 7,A (R315), index 0x1FF -/
  | set7A
  /-- UNDEFINED (R346), index 0x0D3 -/
  | undefinedD3
  /-- UNDEFINED (R346), index 0x0DB -/
  | undefinedDB
  /-- UNDEFINED (R346), index 0x0DD -/
  | undefinedDD
  /-- UNDEFINED (R346), index 0x0E3 -/
  | undefinedE3
  /-- UNDEFINED (R346), index 0x0E4 -/
  | undefinedE4
  /-- UNDEFINED (R346), index 0x0EB -/
  | undefinedEB
  /-- UNDEFINED (R346), index 0x0EC -/
  | undefinedEC
  /-- UNDEFINED (R346), index 0x0ED -/
  | undefinedED
  /-- UNDEFINED (R346), index 0x0F4 -/
  | undefinedF4
  /-- UNDEFINED (R346), index 0x0FC -/
  | undefinedFC
  /-- UNDEFINED (R346), index 0x0FD -/
  | undefinedFD
deriving DecidableEq, Repr, Inhabited

end Sys2Proof
end

