-- ==== Sys2Proof/Decode.lean ====
section
/-!
DEFINITION. Decoding and encoding (30_encoding.md R120 to R137).
First the forms of R123 to R131: each maps its operand fields to the constructor of the table row.
Then `decodeEntry`, the look-up of one table entry from its opcode byte and the two bytes after it, total on all 512 entries;
`decode`, the same on a list of bytes, which refuses a list that ends too early by name; `decodeWord`, a whole instruction
(0xCB continues with exactly one more byte, R124).
Then the encoder `encode`, and the host's `decodeTableWord`.
-/

namespace Sys2Proof

open Sys2Proof.Machine

/-! ### The operand fields (R126 to R131) -/

/-- `r8[k]`: a register, or none for code 6, `(HL)` (R126). -/
def r8OfCode : Nat → Option R8
  | 0 => some .b | 1 => some .c | 2 => some .d | 3 => some .e | 4 => some .h | 5 => some .l | 6 => none | _ => some .a

/-- `r16[k]` (R127). -/
def r16OfCode : Nat → R16
  | 0 => .bc | 1 => .de | 2 => .hl | _ => .sp

/-- `r16stk[k]` (R128). -/
def r16StkOfCode : Nat → R16Stk
  | 0 => .bc | 1 => .de | 2 => .hl | _ => .af

/-- `cc` (R129). -/
def condOfCode : Nat → Cond
  | 0 => .nz | 1 => .z | 2 => .nc | _ => .c

/-- `bbb`, `ttt` (R131). -/
def bit3OfCode : Nat → Bit3
  | 0 => .b0 | 1 => .b1 | 2 => .b2 | 3 => .b3 | 4 => .b4 | 5 => .b5 | 6 => .b6 | _ => .b7

/-- `ooo` of the ALU forms (R125). -/
def aluOfCode : Nat → AluOp
  | 0 => .add | 1 => .adc | 2 => .sub | 3 => .sbc | 4 => .and | 5 => .xor | 6 => .or | _ => .cp

/-- `ooo` of the prefixed rotate and shift forms (R132). -/
def shiftOfCode : Nat → ShiftKind
  | 0 => .rlc | 1 => .rrc | 2 => .rl | 3 => .rr | 4 => .sla | 5 => .sra | 6 => .swap | _ => .srl

/-! ### The forms -/

/-- `01dddsss`, ddd ≠ 6, sss ≠ 6: LD r,r' (R202). -/
def formLdRR : R8 → R8 → Instr
  | .b, .b => .ldBB | .b, .c => .ldBC | .b, .d => .ldBD | .b, .e => .ldBE | .b, .h => .ldBH | .b, .l => .ldBL | .b, .a => .ldBA
  | .c, .b => .ldCB | .c, .c => .ldCC | .c, .d => .ldCD | .c, .e => .ldCE | .c, .h => .ldCH | .c, .l => .ldCL | .c, .a => .ldCA
  | .d, .b => .ldDB | .d, .c => .ldDC | .d, .d => .ldDD | .d, .e => .ldDE | .d, .h => .ldDH | .d, .l => .ldDL | .d, .a => .ldDA
  | .e, .b => .ldEB | .e, .c => .ldEC | .e, .d => .ldED | .e, .e => .ldEE | .e, .h => .ldEH | .e, .l => .ldEL | .e, .a => .ldEA
  | .h, .b => .ldHB | .h, .c => .ldHC | .h, .d => .ldHD | .h, .e => .ldHE | .h, .h => .ldHH | .h, .l => .ldHL | .h, .a => .ldHA
  | .l, .b => .ldLB | .l, .c => .ldLC | .l, .d => .ldLD | .l, .e => .ldLE | .l, .h => .ldLH | .l, .l => .ldLL | .l, .a => .ldLA
  | .a, .b => .ldAB | .a, .c => .ldAC | .a, .d => .ldAD | .a, .e => .ldAE | .a, .h => .ldAH | .a, .l => .ldAL | .a, .a => .ldAA

/-- `00ddd110` n8, ddd ≠ 6: LD r,n8 (R203). -/
def formLdRN8 : R8 → Byte → Instr
  | .b, n => .ldBN8 n | .c, n => .ldCN8 n | .d, n => .ldDN8 n | .e, n => .ldEN8 n | .h, n => .ldHN8 n | .l, n => .ldLN8 n | .a, n => .ldAN8 n

/-- `01ddd110`, ddd ≠ 6: LD r,(HL) (R204). -/
def formLdRAtHl : R8 → Instr
  | .b => .ldBAtHl | .c => .ldCAtHl | .d => .ldDAtHl | .e => .ldEAtHl | .h => .ldHAtHl | .l => .ldLAtHl | .a => .ldAAtHl

/-- `01110sss`, sss ≠ 6: LD (HL),r (R205). -/
def formLdAtHlR : R8 → Instr
  | .b => .ldAtHlB | .c => .ldAtHlC | .d => .ldAtHlD | .e => .ldAtHlE | .h => .ldAtHlH | .l => .ldAtHlL | .a => .ldAtHlA

/-- `00rr0001` lo hi: LD rr,n16 (R221). -/
def formLdRrN16 : R16 → Word → Instr
  | .bc, n => .ldBcN16 n | .de, n => .ldDeN16 n | .hl, n => .ldHlN16 n | .sp, n => .ldSpN16 n

/-- `11rr0001`: POP rr, POP AF (R224, R225). -/
def formPop : R16Stk → Instr
  | .bc => .popBc | .de => .popDe | .hl => .popHl | .af => .popAf

/-- `11rr0101`: PUSH rr (R226). -/
def formPush : R16Stk → Instr
  | .bc => .pushBc | .de => .pushDe | .hl => .pushHl | .af => .pushAf

/-- `10ooosss`, sss ≠ 6: the 8-bit ALU operations on A and a register (R243 to R264). -/
def formAluR : AluOp → R8 → Instr
  | .add, .b => .addAB | .add, .c => .addAC | .add, .d => .addAD | .add, .e => .addAE | .add, .h => .addAH | .add, .l => .addAL | .add, .a => .addAA
  | .adc, .b => .adcAB | .adc, .c => .adcAC | .adc, .d => .adcAD | .adc, .e => .adcAE | .adc, .h => .adcAH | .adc, .l => .adcAL | .adc, .a => .adcAA
  | .sub, .b => .subAB | .sub, .c => .subAC | .sub, .d => .subAD | .sub, .e => .subAE | .sub, .h => .subAH | .sub, .l => .subAL | .sub, .a => .subAA
  | .sbc, .b => .sbcAB | .sbc, .c => .sbcAC | .sbc, .d => .sbcAD | .sbc, .e => .sbcAE | .sbc, .h => .sbcAH | .sbc, .l => .sbcAL | .sbc, .a => .sbcAA
  | .and, .b => .andAB | .and, .c => .andAC | .and, .d => .andAD | .and, .e => .andAE | .and, .h => .andAH | .and, .l => .andAL | .and, .a => .andAA
  | .xor, .b => .xorAB | .xor, .c => .xorAC | .xor, .d => .xorAD | .xor, .e => .xorAE | .xor, .h => .xorAH | .xor, .l => .xorAL | .xor, .a => .xorAA
  | .or, .b => .orAB | .or, .c => .orAC | .or, .d => .orAD | .or, .e => .orAE | .or, .h => .orAH | .or, .l => .orAL | .or, .a => .orAA
  | .cp, .b => .cpAB | .cp, .c => .cpAC | .cp, .d => .cpAD | .cp, .e => .cpAE | .cp, .h => .cpAH | .cp, .l => .cpAL | .cp, .a => .cpAA

/-- `10ooo110`: the 8-bit ALU operations on A and (HL). -/
def formAluAtHl : AluOp → Instr
  | .add => .addAAtHl | .adc => .adcAAtHl | .sub => .subAAtHl | .sbc => .sbcAAtHl | .and => .andAAtHl | .xor => .xorAAtHl | .or => .orAAtHl | .cp => .cpAAtHl

/-- `11ooo110` n8: the 8-bit ALU operations on A and n8. -/
def formAluN8 : AluOp → Byte → Instr
  | .add, n => .addAN8 n | .adc, n => .adcAN8 n | .sub, n => .subAN8 n | .sbc, n => .sbcAN8 n | .and, n => .andAN8 n | .xor, n => .xorAN8 n | .or, n => .orAN8 n | .cp, n => .cpAN8 n

/-- `00ddd100`, ddd ≠ 6: INC r (R267). -/
def formIncR : R8 → Instr
  | .b => .incB | .c => .incC | .d => .incD | .e => .incE | .h => .incH | .l => .incL | .a => .incA

/-- `00ddd101`, ddd ≠ 6: DEC r (R269). -/
def formDecR : R8 → Instr
  | .b => .decB | .c => .decC | .d => .decD | .e => .decE | .h => .decH | .l => .decL | .a => .decA

/-- `00rr0011`: INC rr (R281). -/
def formIncRr : R16 → Instr
  | .bc => .incBc | .de => .incDe | .hl => .incHl | .sp => .incSp

/-- `00rr1011`: DEC rr (R282). -/
def formDecRr : R16 → Instr
  | .bc => .decBc | .de => .decDe | .hl => .decHl | .sp => .decSp

/-- `00rr1001`: ADD HL,rr (R283). -/
def formAddHlRr : R16 → Instr
  | .bc => .addHlBc | .de => .addHlDe | .hl => .addHlHl | .sp => .addHlSp

/-- `001cc000` n8: JR cc,e8 (R324). -/
def formJrCc : Cond → Byte → Instr
  | .nz, n => .jrNzE8 n | .z, n => .jrZE8 n | .nc, n => .jrNcE8 n | .c, n => .jrCE8 n

/-- `110cc010` lo hi: JP cc,n16 (R321). -/
def formJpCc : Cond → Word → Instr
  | .nz, n => .jpNzN16 n | .z, n => .jpZN16 n | .nc, n => .jpNcN16 n | .c, n => .jpCN16 n

/-- `110cc100` lo hi: CALL cc,n16 (R326). -/
def formCallCc : Cond → Word → Instr
  | .nz, n => .callNzN16 n | .z, n => .callZN16 n | .nc, n => .callNcN16 n | .c, n => .callCN16 n

/-- `110cc000`: RET cc (R328). -/
def formRetCc : Cond → Instr
  | .nz => .retNz | .z => .retZ | .nc => .retNc | .c => .retC

/-- `11ttt111`: RST t (R330). -/
def formRst : Bit3 → Instr
  | .b0 => .rst00 | .b1 => .rst08 | .b2 => .rst10 | .b3 => .rst18 | .b4 => .rst20 | .b5 => .rst28 | .b6 => .rst30 | .b7 => .rst38

/-- 0xCB, `00ooosss`, sss ≠ 6: rotates and shifts of a register (R295 to R309). -/
def formShiftR : ShiftKind → R8 → Instr
  | .rlc, .b => .rlcB | .rlc, .c => .rlcC | .rlc, .d => .rlcD | .rlc, .e => .rlcE | .rlc, .h => .rlcH | .rlc, .l => .rlcL | .rlc, .a => .rlcA
  | .rrc, .b => .rrcB | .rrc, .c => .rrcC | .rrc, .d => .rrcD | .rrc, .e => .rrcE | .rrc, .h => .rrcH | .rrc, .l => .rrcL | .rrc, .a => .rrcA
  | .rl, .b => .rlB | .rl, .c => .rlC | .rl, .d => .rlD | .rl, .e => .rlE | .rl, .h => .rlH | .rl, .l => .rlL | .rl, .a => .rlA
  | .rr, .b => .rrB | .rr, .c => .rrC | .rr, .d => .rrD | .rr, .e => .rrE | .rr, .h => .rrH | .rr, .l => .rrL | .rr, .a => .rrA
  | .sla, .b => .slaB | .sla, .c => .slaC | .sla, .d => .slaD | .sla, .e => .slaE | .sla, .h => .slaH | .sla, .l => .slaL | .sla, .a => .slaA
  | .sra, .b => .sraB | .sra, .c => .sraC | .sra, .d => .sraD | .sra, .e => .sraE | .sra, .h => .sraH | .sra, .l => .sraL | .sra, .a => .sraA
  | .swap, .b => .swapB | .swap, .c => .swapC | .swap, .d => .swapD | .swap, .e => .swapE | .swap, .h => .swapH | .swap, .l => .swapL | .swap, .a => .swapA
  | .srl, .b => .srlB | .srl, .c => .srlC | .srl, .d => .srlD | .srl, .e => .srlE | .srl, .h => .srlH | .srl, .l => .srlL | .srl, .a => .srlA

/-- 0xCB, `00ooo110`: rotates and shifts of (HL) (R296 to R310). -/
def formShiftAtHl : ShiftKind → Instr
  | .rlc => .rlcAtHl | .rrc => .rrcAtHl | .rl => .rlAtHl | .rr => .rrAtHl | .sla => .slaAtHl | .sra => .sraAtHl | .swap => .swapAtHl | .srl => .srlAtHl

/-- 0xCB, `01bbbsss`, sss ≠ 6: BIT b,r (R311). -/
def formBitR : Bit3 → R8 → Instr
  | .b0, .b => .bit0B | .b0, .c => .bit0C | .b0, .d => .bit0D | .b0, .e => .bit0E | .b0, .h => .bit0H | .b0, .l => .bit0L | .b0, .a => .bit0A
  | .b1, .b => .bit1B | .b1, .c => .bit1C | .b1, .d => .bit1D | .b1, .e => .bit1E | .b1, .h => .bit1H | .b1, .l => .bit1L | .b1, .a => .bit1A
  | .b2, .b => .bit2B | .b2, .c => .bit2C | .b2, .d => .bit2D | .b2, .e => .bit2E | .b2, .h => .bit2H | .b2, .l => .bit2L | .b2, .a => .bit2A
  | .b3, .b => .bit3B | .b3, .c => .bit3C | .b3, .d => .bit3D | .b3, .e => .bit3E | .b3, .h => .bit3H | .b3, .l => .bit3L | .b3, .a => .bit3A
  | .b4, .b => .bit4B | .b4, .c => .bit4C | .b4, .d => .bit4D | .b4, .e => .bit4E | .b4, .h => .bit4H | .b4, .l => .bit4L | .b4, .a => .bit4A
  | .b5, .b => .bit5B | .b5, .c => .bit5C | .b5, .d => .bit5D | .b5, .e => .bit5E | .b5, .h => .bit5H | .b5, .l => .bit5L | .b5, .a => .bit5A
  | .b6, .b => .bit6B | .b6, .c => .bit6C | .b6, .d => .bit6D | .b6, .e => .bit6E | .b6, .h => .bit6H | .b6, .l => .bit6L | .b6, .a => .bit6A
  | .b7, .b => .bit7B | .b7, .c => .bit7C | .b7, .d => .bit7D | .b7, .e => .bit7E | .b7, .h => .bit7H | .b7, .l => .bit7L | .b7, .a => .bit7A

/-- 0xCB, `01bbb110`: BIT b,(HL) (R312). -/
def formBitAtHl : Bit3 → Instr
  | .b0 => .bit0AtHl | .b1 => .bit1AtHl | .b2 => .bit2AtHl | .b3 => .bit3AtHl | .b4 => .bit4AtHl | .b5 => .bit5AtHl | .b6 => .bit6AtHl | .b7 => .bit7AtHl

/-- 0xCB, `10bbbsss`, sss ≠ 6: RES b,r (R313). -/
def formResR : Bit3 → R8 → Instr
  | .b0, .b => .res0B | .b0, .c => .res0C | .b0, .d => .res0D | .b0, .e => .res0E | .b0, .h => .res0H | .b0, .l => .res0L | .b0, .a => .res0A
  | .b1, .b => .res1B | .b1, .c => .res1C | .b1, .d => .res1D | .b1, .e => .res1E | .b1, .h => .res1H | .b1, .l => .res1L | .b1, .a => .res1A
  | .b2, .b => .res2B | .b2, .c => .res2C | .b2, .d => .res2D | .b2, .e => .res2E | .b2, .h => .res2H | .b2, .l => .res2L | .b2, .a => .res2A
  | .b3, .b => .res3B | .b3, .c => .res3C | .b3, .d => .res3D | .b3, .e => .res3E | .b3, .h => .res3H | .b3, .l => .res3L | .b3, .a => .res3A
  | .b4, .b => .res4B | .b4, .c => .res4C | .b4, .d => .res4D | .b4, .e => .res4E | .b4, .h => .res4H | .b4, .l => .res4L | .b4, .a => .res4A
  | .b5, .b => .res5B | .b5, .c => .res5C | .b5, .d => .res5D | .b5, .e => .res5E | .b5, .h => .res5H | .b5, .l => .res5L | .b5, .a => .res5A
  | .b6, .b => .res6B | .b6, .c => .res6C | .b6, .d => .res6D | .b6, .e => .res6E | .b6, .h => .res6H | .b6, .l => .res6L | .b6, .a => .res6A
  | .b7, .b => .res7B | .b7, .c => .res7C | .b7, .d => .res7D | .b7, .e => .res7E | .b7, .h => .res7H | .b7, .l => .res7L | .b7, .a => .res7A

/-- 0xCB, `10bbb110`: RES b,(HL) (R314). -/
def formResAtHl : Bit3 → Instr
  | .b0 => .res0AtHl | .b1 => .res1AtHl | .b2 => .res2AtHl | .b3 => .res3AtHl | .b4 => .res4AtHl | .b5 => .res5AtHl | .b6 => .res6AtHl | .b7 => .res7AtHl

/-- 0xCB, `11bbbsss`, sss ≠ 6: SET b,r (R315). -/
def formSetR : Bit3 → R8 → Instr
  | .b0, .b => .set0B | .b0, .c => .set0C | .b0, .d => .set0D | .b0, .e => .set0E | .b0, .h => .set0H | .b0, .l => .set0L | .b0, .a => .set0A
  | .b1, .b => .set1B | .b1, .c => .set1C | .b1, .d => .set1D | .b1, .e => .set1E | .b1, .h => .set1H | .b1, .l => .set1L | .b1, .a => .set1A
  | .b2, .b => .set2B | .b2, .c => .set2C | .b2, .d => .set2D | .b2, .e => .set2E | .b2, .h => .set2H | .b2, .l => .set2L | .b2, .a => .set2A
  | .b3, .b => .set3B | .b3, .c => .set3C | .b3, .d => .set3D | .b3, .e => .set3E | .b3, .h => .set3H | .b3, .l => .set3L | .b3, .a => .set3A
  | .b4, .b => .set4B | .b4, .c => .set4C | .b4, .d => .set4D | .b4, .e => .set4E | .b4, .h => .set4H | .b4, .l => .set4L | .b4, .a => .set4A
  | .b5, .b => .set5B | .b5, .c => .set5C | .b5, .d => .set5D | .b5, .e => .set5E | .b5, .h => .set5H | .b5, .l => .set5L | .b5, .a => .set5A
  | .b6, .b => .set6B | .b6, .c => .set6C | .b6, .d => .set6D | .b6, .e => .set6E | .b6, .h => .set6H | .b6, .l => .set6L | .b6, .a => .set6A
  | .b7, .b => .set7B | .b7, .c => .set7C | .b7, .d => .set7D | .b7, .e => .set7E | .b7, .h => .set7H | .b7, .l => .set7L | .b7, .a => .set7A

/-- 0xCB, `11bbb110`: SET b,(HL) (R316). -/
def formSetAtHl : Bit3 → Instr
  | .b0 => .set0AtHl | .b1 => .set1AtHl | .b2 => .set2AtHl | .b3 => .set3AtHl | .b4 => .set4AtHl | .b5 => .set5AtHl | .b6 => .set6AtHl | .b7 => .set7AtHl

/-- The eleven undefined bytes of normal-fetch state, in the order of R133. -/
def undefinedForms : List Instr :=
  [.undefinedD3, .undefinedDB, .undefinedDD, .undefinedE3, .undefinedE4, .undefinedEB,
   .undefinedEC, .undefinedED, .undefinedF4, .undefinedFC, .undefinedFD]

/-! ### The decoder -/

/-- Opcodes `00yyyzzz` (R125, rows 0x to 3x); `b1`, `b2` are the bytes after the opcode. -/
def decodeX0 (y z : Nat) (b1 b2 : Byte) : Instr :=
  let n16 := wordOf b2 b1
  match z with
  | 0 =>
    match y with
    | 0 => .nop
    | 1 => .ldAtN16Sp n16
    | 2 => .stop b1
    | 3 => .jrE8 b1
    | _ => formJrCc (condOfCode (y - 4)) b1
  | 1 => if y % 2 = 0 then formLdRrN16 (r16OfCode (y / 2)) n16 else formAddHlRr (r16OfCode (y / 2))
  | 2 =>
    match y with
    | 0 => .ldAtBcA
    | 1 => .ldAAtBc
    | 2 => .ldAtDeA
    | 3 => .ldAAtDe
    | 4 => .ldAtHlIncA
    | 5 => .ldAAtHlInc
    | 6 => .ldAtHlDecA
    | _ => .ldAAtHlDec
  | 3 => if y % 2 = 0 then formIncRr (r16OfCode (y / 2)) else formDecRr (r16OfCode (y / 2))
  | 4 =>
    match r8OfCode y with
    | some dst => formIncR dst
    | none => .incAtHl
  | 5 =>
    match r8OfCode y with
    | some dst => formDecR dst
    | none => .decAtHl
  | 6 =>
    match r8OfCode y with
    | some dst => formLdRN8 dst b1
    | none => .ldAtHlN8 b1
  | _ =>
    match y with
    | 0 => .rlca
    | 1 => .rrca
    | 2 => .rla
    | 3 => .rra
    | 4 => .daa
    | 5 => .cpl
    | 6 => .scf
    | _ => .ccf

/-- Opcodes `01dddsss` (R202, R204, R205; 0x76 is HALT, R341). -/
def decodeX1 (y z : Nat) : Instr :=
  match r8OfCode y, r8OfCode z with
  | some dst, some r => formLdRR dst r
  | some dst, none => formLdRAtHl dst
  | none, some r => formLdAtHlR r
  | none, none => .halt

/-- Opcodes `10ooosss`. -/
def decodeX2 (y z : Nat) : Instr :=
  match r8OfCode z with
  | some r => formAluR (aluOfCode y) r
  | none => formAluAtHl (aluOfCode y)

/-- Opcodes `11yyyzzz` (R125, rows Cx to Fx), the undefined bytes of R133 among them. -/
def decodeX3 (y z : Nat) (b1 b2 : Byte) : Instr :=
  let n16 := wordOf b2 b1
  match z with
  | 0 =>
    match y with
    | 4 => .ldhAtN8A b1
    | 5 => .addSpE8 b1
    | 6 => .ldhAAtN8 b1
    | 7 => .ldHlSpE8 b1
    | _ => formRetCc (condOfCode y)
  | 1 =>
    match y with
    | 1 => .ret
    | 3 => .reti
    | 5 => .jpHl
    | 7 => .ldSpHl
    | _ => formPop (r16StkOfCode (y / 2))
  | 2 =>
    match y with
    | 4 => .ldhAtCA
    | 5 => .ldAtN16A n16
    | 6 => .ldhAAtC
    | 7 => .ldAAtN16 n16
    | _ => formJpCc (condOfCode y) n16
  | 3 =>
    match y with
    | 0 => .jpN16 n16
    | 1 => .prefixCb
    | 2 => .undefinedD3
    | 3 => .undefinedDB
    | 4 => .undefinedE3
    | 5 => .undefinedEB
    | 6 => .di
    | _ => .ei
  | 4 =>
    match y with
    | 4 => .undefinedE4
    | 5 => .undefinedEC
    | 6 => .undefinedF4
    | 7 => .undefinedFC
    | _ => formCallCc (condOfCode y) n16
  | 5 =>
    match y with
    | 1 => .callN16 n16
    | 3 => .undefinedDD
    | 5 => .undefinedED
    | 7 => .undefinedFD
    | _ => formPush (r16StkOfCode (y / 2))
  | 6 => formAluN8 (aluOfCode y) b1
  | _ => formRst (bit3OfCode y)

/-- Table entries 0..255 (R121, R125): the fields x = op[7:6], y = op[5:3], z = op[2:0] of R123. -/
def decodeUnprefixed (op b1 b2 : Byte) : Instr :=
  let y := op.toNat / 8 % 8
  let z := op.toNat % 8
  match op.toNat / 64 with
  | 0 => decodeX0 y z b1 b2
  | 1 => decodeX1 y z
  | 2 => decodeX2 y z
  | _ => decodeX3 y z b1 b2

/-- Table entries 256..511 (R121, R132). -/
def decodePrefixed (op : Byte) : Instr :=
  let y := op.toNat / 8 % 8
  match op.toNat / 64, r8OfCode (op.toNat % 8) with
  | 0, some r => formShiftR (shiftOfCode y) r
  | 0, none => formShiftAtHl (shiftOfCode y)
  | 1, some r => formBitR (bit3OfCode y) r
  | 1, none => formBitAtHl (bit3OfCode y)
  | 2, some r => formResR (bit3OfCode y) r
  | 2, none => formResAtHl (bit3OfCode y)
  | _, some r => formSetR (bit3OfCode y) r
  | _, none => formSetAtHl (bit3OfCode y)

/-- `TABLE[op + 256 * PREFIX]` with the immediates of the bytes that follow (R121, R130): total on all 512 entries. -/
def decodeEntry (prefixed : Bool) (op b1 b2 : Byte) : Instr :=
  if prefixed then decodePrefixed op else decodeUnprefixed op b1 b2

/-- The opcodes of length 3 (R125). -/
def threeByteOpcodes : List Nat :=
  [0x01, 0x11, 0x21, 0x31, 0x08, 0xC3, 0xC2, 0xCA, 0xD2, 0xDA, 0xCD, 0xC4, 0xCC, 0xD4, 0xDC, 0xEA, 0xFA]

/-- The opcodes of length 2 (R125). -/
def twoByteOpcodes : List Nat :=
  [0x06, 0x0E, 0x16, 0x1E, 0x26, 0x2E, 0x36, 0x3E, 0x10, 0x18, 0x20, 0x28, 0x30, 0x38]
  ++ [0xC6, 0xCE, 0xD6, 0xDE, 0xE6, 0xEE, 0xF6, 0xFE, 0xE0, 0xF0, 0xE8, 0xF8]

/-- How many bytes the entry of an opcode byte takes (R122, R124, R125). -/
def entryLength (prefixed : Bool) (op : Byte) : Nat :=
  if prefixed then 1
  else if threeByteOpcodes.contains op.toNat then 3
  else if twoByteOpcodes.contains op.toNat then 2
  else 1

/-- Why a list of bytes is refused: every opcode byte has a row, so the list can only end too early. -/
inductive DecodeError where
  /-- There is no byte at all. -/
  | noOpcode
  /-- The list ends inside the immediate of this opcode. -/
  | truncated (op : Byte)
deriving DecidableEq, Repr

/-- One table entry from the front of a list of bytes, with the bytes left over. -/
def decode (prefixed : Bool) : List Byte → Except DecodeError (Instr × List Byte)
  | [] => .error .noOpcode
  | op :: rest =>
    match entryLength prefixed op, rest with
    | 1, _ => .ok (decodeEntry prefixed op 0 0, rest)
    | 2, b1 :: rest' => .ok (decodeEntry prefixed op b1 0, rest')
    | 3, b1 :: b2 :: rest' => .ok (decodeEntry prefixed op b1 b2, rest')
    | _, _ => .error (.truncated op)

/-- A whole instruction from the front of a list of bytes: 0xCB continues with exactly one more byte, looked up in entries
256..511 (R124). A lone 0xCB at the end of the list is the escape entry itself. -/
def decodeWord : List Byte → Except DecodeError (Instr × List Byte)
  | [] => .error .noOpcode
  | op :: rest =>
    if op = 0xCB#8 then
      match rest with
      | [] => .ok (.prefixCb, [])
      | op2 :: rest' => decode true (op2 :: rest')
    else decode false (op :: rest)

/-! ### The encoder -/

/-- The words of one instruction: whether its entry is among 256..511 (reached after the byte 0xCB), and the bytes of the
entry itself. -/
structure EntryWords where
  prefixed : Bool
  bytes : List Byte
deriving DecidableEq, Repr

/-- An entry among 0..255. -/
def unprefixedWords (bytes : List Byte) : EntryWords := ⟨false, bytes⟩

/-- An entry among 256..511. -/
def prefixedWords (op : Byte) : EntryWords := ⟨true, [op]⟩

/-- The table entry's words of an instruction, row by row of the maps R125 and R132; a 16-bit immediate has its low byte
first (R90, R130). -/
def encodeEntry : Instr → EntryWords
  | .nop => unprefixedWords [0x00]
  | .ldBcN16 n => unprefixedWords [0x01, loByte n, hiByte n]
  | .ldAtBcA => unprefixedWords [0x02]
  | .incBc => unprefixedWords [0x03]
  | .incB => unprefixedWords [0x04]
  | .decB => unprefixedWords [0x05]
  | .ldBN8 n => unprefixedWords [0x06, n]
  | .rlca => unprefixedWords [0x07]
  | .ldAtN16Sp n => unprefixedWords [0x08, loByte n, hiByte n]
  | .addHlBc => unprefixedWords [0x09]
  | .ldAAtBc => unprefixedWords [0x0A]
  | .decBc => unprefixedWords [0x0B]
  | .incC => unprefixedWords [0x0C]
  | .decC => unprefixedWords [0x0D]
  | .ldCN8 n => unprefixedWords [0x0E, n]
  | .rrca => unprefixedWords [0x0F]
  | .stop n => unprefixedWords [0x10, n]
  | .ldDeN16 n => unprefixedWords [0x11, loByte n, hiByte n]
  | .ldAtDeA => unprefixedWords [0x12]
  | .incDe => unprefixedWords [0x13]
  | .incD => unprefixedWords [0x14]
  | .decD => unprefixedWords [0x15]
  | .ldDN8 n => unprefixedWords [0x16, n]
  | .rla => unprefixedWords [0x17]
  | .jrE8 n => unprefixedWords [0x18, n]
  | .addHlDe => unprefixedWords [0x19]
  | .ldAAtDe => unprefixedWords [0x1A]
  | .decDe => unprefixedWords [0x1B]
  | .incE => unprefixedWords [0x1C]
  | .decE => unprefixedWords [0x1D]
  | .ldEN8 n => unprefixedWords [0x1E, n]
  | .rra => unprefixedWords [0x1F]
  | .jrNzE8 n => unprefixedWords [0x20, n]
  | .ldHlN16 n => unprefixedWords [0x21, loByte n, hiByte n]
  | .ldAtHlIncA => unprefixedWords [0x22]
  | .incHl => unprefixedWords [0x23]
  | .incH => unprefixedWords [0x24]
  | .decH => unprefixedWords [0x25]
  | .ldHN8 n => unprefixedWords [0x26, n]
  | .daa => unprefixedWords [0x27]
  | .jrZE8 n => unprefixedWords [0x28, n]
  | .addHlHl => unprefixedWords [0x29]
  | .ldAAtHlInc => unprefixedWords [0x2A]
  | .decHl => unprefixedWords [0x2B]
  | .incL => unprefixedWords [0x2C]
  | .decL => unprefixedWords [0x2D]
  | .ldLN8 n => unprefixedWords [0x2E, n]
  | .cpl => unprefixedWords [0x2F]
  | .jrNcE8 n => unprefixedWords [0x30, n]
  | .ldSpN16 n => unprefixedWords [0x31, loByte n, hiByte n]
  | .ldAtHlDecA => unprefixedWords [0x32]
  | .incSp => unprefixedWords [0x33]
  | .incAtHl => unprefixedWords [0x34]
  | .decAtHl => unprefixedWords [0x35]
  | .ldAtHlN8 n => unprefixedWords [0x36, n]
  | .scf => unprefixedWords [0x37]
  | .jrCE8 n => unprefixedWords [0x38, n]
  | .addHlSp => unprefixedWords [0x39]
  | .ldAAtHlDec => unprefixedWords [0x3A]
  | .decSp => unprefixedWords [0x3B]
  | .incA => unprefixedWords [0x3C]
  | .decA => unprefixedWords [0x3D]
  | .ldAN8 n => unprefixedWords [0x3E, n]
  | .ccf => unprefixedWords [0x3F]
  | .ldBB => unprefixedWords [0x40]
  | .ldBC => unprefixedWords [0x41]
  | .ldBD => unprefixedWords [0x42]
  | .ldBE => unprefixedWords [0x43]
  | .ldBH => unprefixedWords [0x44]
  | .ldBL => unprefixedWords [0x45]
  | .ldBAtHl => unprefixedWords [0x46]
  | .ldBA => unprefixedWords [0x47]
  | .ldCB => unprefixedWords [0x48]
  | .ldCC => unprefixedWords [0x49]
  | .ldCD => unprefixedWords [0x4A]
  | .ldCE => unprefixedWords [0x4B]
  | .ldCH => unprefixedWords [0x4C]
  | .ldCL => unprefixedWords [0x4D]
  | .ldCAtHl => unprefixedWords [0x4E]
  | .ldCA => unprefixedWords [0x4F]
  | .ldDB => unprefixedWords [0x50]
  | .ldDC => unprefixedWords [0x51]
  | .ldDD => unprefixedWords [0x52]
  | .ldDE => unprefixedWords [0x53]
  | .ldDH => unprefixedWords [0x54]
  | .ldDL => unprefixedWords [0x55]
  | .ldDAtHl => unprefixedWords [0x56]
  | .ldDA => unprefixedWords [0x57]
  | .ldEB => unprefixedWords [0x58]
  | .ldEC => unprefixedWords [0x59]
  | .ldED => unprefixedWords [0x5A]
  | .ldEE => unprefixedWords [0x5B]
  | .ldEH => unprefixedWords [0x5C]
  | .ldEL => unprefixedWords [0x5D]
  | .ldEAtHl => unprefixedWords [0x5E]
  | .ldEA => unprefixedWords [0x5F]
  | .ldHB => unprefixedWords [0x60]
  | .ldHC => unprefixedWords [0x61]
  | .ldHD => unprefixedWords [0x62]
  | .ldHE => unprefixedWords [0x63]
  | .ldHH => unprefixedWords [0x64]
  | .ldHL => unprefixedWords [0x65]
  | .ldHAtHl => unprefixedWords [0x66]
  | .ldHA => unprefixedWords [0x67]
  | .ldLB => unprefixedWords [0x68]
  | .ldLC => unprefixedWords [0x69]
  | .ldLD => unprefixedWords [0x6A]
  | .ldLE => unprefixedWords [0x6B]
  | .ldLH => unprefixedWords [0x6C]
  | .ldLL => unprefixedWords [0x6D]
  | .ldLAtHl => unprefixedWords [0x6E]
  | .ldLA => unprefixedWords [0x6F]
  | .ldAtHlB => unprefixedWords [0x70]
  | .ldAtHlC => unprefixedWords [0x71]
  | .ldAtHlD => unprefixedWords [0x72]
  | .ldAtHlE => unprefixedWords [0x73]
  | .ldAtHlH => unprefixedWords [0x74]
  | .ldAtHlL => unprefixedWords [0x75]
  | .halt => unprefixedWords [0x76]
  | .ldAtHlA => unprefixedWords [0x77]
  | .ldAB => unprefixedWords [0x78]
  | .ldAC => unprefixedWords [0x79]
  | .ldAD => unprefixedWords [0x7A]
  | .ldAE => unprefixedWords [0x7B]
  | .ldAH => unprefixedWords [0x7C]
  | .ldAL => unprefixedWords [0x7D]
  | .ldAAtHl => unprefixedWords [0x7E]
  | .ldAA => unprefixedWords [0x7F]
  | .addAB => unprefixedWords [0x80]
  | .addAC => unprefixedWords [0x81]
  | .addAD => unprefixedWords [0x82]
  | .addAE => unprefixedWords [0x83]
  | .addAH => unprefixedWords [0x84]
  | .addAL => unprefixedWords [0x85]
  | .addAAtHl => unprefixedWords [0x86]
  | .addAA => unprefixedWords [0x87]
  | .adcAB => unprefixedWords [0x88]
  | .adcAC => unprefixedWords [0x89]
  | .adcAD => unprefixedWords [0x8A]
  | .adcAE => unprefixedWords [0x8B]
  | .adcAH => unprefixedWords [0x8C]
  | .adcAL => unprefixedWords [0x8D]
  | .adcAAtHl => unprefixedWords [0x8E]
  | .adcAA => unprefixedWords [0x8F]
  | .subAB => unprefixedWords [0x90]
  | .subAC => unprefixedWords [0x91]
  | .subAD => unprefixedWords [0x92]
  | .subAE => unprefixedWords [0x93]
  | .subAH => unprefixedWords [0x94]
  | .subAL => unprefixedWords [0x95]
  | .subAAtHl => unprefixedWords [0x96]
  | .subAA => unprefixedWords [0x97]
  | .sbcAB => unprefixedWords [0x98]
  | .sbcAC => unprefixedWords [0x99]
  | .sbcAD => unprefixedWords [0x9A]
  | .sbcAE => unprefixedWords [0x9B]
  | .sbcAH => unprefixedWords [0x9C]
  | .sbcAL => unprefixedWords [0x9D]
  | .sbcAAtHl => unprefixedWords [0x9E]
  | .sbcAA => unprefixedWords [0x9F]
  | .andAB => unprefixedWords [0xA0]
  | .andAC => unprefixedWords [0xA1]
  | .andAD => unprefixedWords [0xA2]
  | .andAE => unprefixedWords [0xA3]
  | .andAH => unprefixedWords [0xA4]
  | .andAL => unprefixedWords [0xA5]
  | .andAAtHl => unprefixedWords [0xA6]
  | .andAA => unprefixedWords [0xA7]
  | .xorAB => unprefixedWords [0xA8]
  | .xorAC => unprefixedWords [0xA9]
  | .xorAD => unprefixedWords [0xAA]
  | .xorAE => unprefixedWords [0xAB]
  | .xorAH => unprefixedWords [0xAC]
  | .xorAL => unprefixedWords [0xAD]
  | .xorAAtHl => unprefixedWords [0xAE]
  | .xorAA => unprefixedWords [0xAF]
  | .orAB => unprefixedWords [0xB0]
  | .orAC => unprefixedWords [0xB1]
  | .orAD => unprefixedWords [0xB2]
  | .orAE => unprefixedWords [0xB3]
  | .orAH => unprefixedWords [0xB4]
  | .orAL => unprefixedWords [0xB5]
  | .orAAtHl => unprefixedWords [0xB6]
  | .orAA => unprefixedWords [0xB7]
  | .cpAB => unprefixedWords [0xB8]
  | .cpAC => unprefixedWords [0xB9]
  | .cpAD => unprefixedWords [0xBA]
  | .cpAE => unprefixedWords [0xBB]
  | .cpAH => unprefixedWords [0xBC]
  | .cpAL => unprefixedWords [0xBD]
  | .cpAAtHl => unprefixedWords [0xBE]
  | .cpAA => unprefixedWords [0xBF]
  | .retNz => unprefixedWords [0xC0]
  | .popBc => unprefixedWords [0xC1]
  | .jpNzN16 n => unprefixedWords [0xC2, loByte n, hiByte n]
  | .jpN16 n => unprefixedWords [0xC3, loByte n, hiByte n]
  | .callNzN16 n => unprefixedWords [0xC4, loByte n, hiByte n]
  | .pushBc => unprefixedWords [0xC5]
  | .addAN8 n => unprefixedWords [0xC6, n]
  | .rst00 => unprefixedWords [0xC7]
  | .retZ => unprefixedWords [0xC8]
  | .ret => unprefixedWords [0xC9]
  | .jpZN16 n => unprefixedWords [0xCA, loByte n, hiByte n]
  | .prefixCb => unprefixedWords [0xCB]
  | .callZN16 n => unprefixedWords [0xCC, loByte n, hiByte n]
  | .callN16 n => unprefixedWords [0xCD, loByte n, hiByte n]
  | .adcAN8 n => unprefixedWords [0xCE, n]
  | .rst08 => unprefixedWords [0xCF]
  | .retNc => unprefixedWords [0xD0]
  | .popDe => unprefixedWords [0xD1]
  | .jpNcN16 n => unprefixedWords [0xD2, loByte n, hiByte n]
  | .undefinedD3 => unprefixedWords [0xD3]
  | .callNcN16 n => unprefixedWords [0xD4, loByte n, hiByte n]
  | .pushDe => unprefixedWords [0xD5]
  | .subAN8 n => unprefixedWords [0xD6, n]
  | .rst10 => unprefixedWords [0xD7]
  | .retC => unprefixedWords [0xD8]
  | .reti => unprefixedWords [0xD9]
  | .jpCN16 n => unprefixedWords [0xDA, loByte n, hiByte n]
  | .undefinedDB => unprefixedWords [0xDB]
  | .callCN16 n => unprefixedWords [0xDC, loByte n, hiByte n]
  | .undefinedDD => unprefixedWords [0xDD]
  | .sbcAN8 n => unprefixedWords [0xDE, n]
  | .rst18 => unprefixedWords [0xDF]
  | .ldhAtN8A n => unprefixedWords [0xE0, n]
  | .popHl => unprefixedWords [0xE1]
  | .ldhAtCA => unprefixedWords [0xE2]
  | .undefinedE3 => unprefixedWords [0xE3]
  | .undefinedE4 => unprefixedWords [0xE4]
  | .pushHl => unprefixedWords [0xE5]
  | .andAN8 n => unprefixedWords [0xE6, n]
  | .rst20 => unprefixedWords [0xE7]
  | .addSpE8 n => unprefixedWords [0xE8, n]
  | .jpHl => unprefixedWords [0xE9]
  | .ldAtN16A n => unprefixedWords [0xEA, loByte n, hiByte n]
  | .undefinedEB => unprefixedWords [0xEB]
  | .undefinedEC => unprefixedWords [0xEC]
  | .undefinedED => unprefixedWords [0xED]
  | .xorAN8 n => unprefixedWords [0xEE, n]
  | .rst28 => unprefixedWords [0xEF]
  | .ldhAAtN8 n => unprefixedWords [0xF0, n]
  | .popAf => unprefixedWords [0xF1]
  | .ldhAAtC => unprefixedWords [0xF2]
  | .di => unprefixedWords [0xF3]
  | .undefinedF4 => unprefixedWords [0xF4]
  | .pushAf => unprefixedWords [0xF5]
  | .orAN8 n => unprefixedWords [0xF6, n]
  | .rst30 => unprefixedWords [0xF7]
  | .ldHlSpE8 n => unprefixedWords [0xF8, n]
  | .ldSpHl => unprefixedWords [0xF9]
  | .ldAAtN16 n => unprefixedWords [0xFA, loByte n, hiByte n]
  | .ei => unprefixedWords [0xFB]
  | .undefinedFC => unprefixedWords [0xFC]
  | .undefinedFD => unprefixedWords [0xFD]
  | .cpAN8 n => unprefixedWords [0xFE, n]
  | .rst38 => unprefixedWords [0xFF]
  | .rlcB => prefixedWords 0x00
  | .rlcC => prefixedWords 0x01
  | .rlcD => prefixedWords 0x02
  | .rlcE => prefixedWords 0x03
  | .rlcH => prefixedWords 0x04
  | .rlcL => prefixedWords 0x05
  | .rlcAtHl => prefixedWords 0x06
  | .rlcA => prefixedWords 0x07
  | .rrcB => prefixedWords 0x08
  | .rrcC => prefixedWords 0x09
  | .rrcD => prefixedWords 0x0A
  | .rrcE => prefixedWords 0x0B
  | .rrcH => prefixedWords 0x0C
  | .rrcL => prefixedWords 0x0D
  | .rrcAtHl => prefixedWords 0x0E
  | .rrcA => prefixedWords 0x0F
  | .rlB => prefixedWords 0x10
  | .rlC => prefixedWords 0x11
  | .rlD => prefixedWords 0x12
  | .rlE => prefixedWords 0x13
  | .rlH => prefixedWords 0x14
  | .rlL => prefixedWords 0x15
  | .rlAtHl => prefixedWords 0x16
  | .rlA => prefixedWords 0x17
  | .rrB => prefixedWords 0x18
  | .rrC => prefixedWords 0x19
  | .rrD => prefixedWords 0x1A
  | .rrE => prefixedWords 0x1B
  | .rrH => prefixedWords 0x1C
  | .rrL => prefixedWords 0x1D
  | .rrAtHl => prefixedWords 0x1E
  | .rrA => prefixedWords 0x1F
  | .slaB => prefixedWords 0x20
  | .slaC => prefixedWords 0x21
  | .slaD => prefixedWords 0x22
  | .slaE => prefixedWords 0x23
  | .slaH => prefixedWords 0x24
  | .slaL => prefixedWords 0x25
  | .slaAtHl => prefixedWords 0x26
  | .slaA => prefixedWords 0x27
  | .sraB => prefixedWords 0x28
  | .sraC => prefixedWords 0x29
  | .sraD => prefixedWords 0x2A
  | .sraE => prefixedWords 0x2B
  | .sraH => prefixedWords 0x2C
  | .sraL => prefixedWords 0x2D
  | .sraAtHl => prefixedWords 0x2E
  | .sraA => prefixedWords 0x2F
  | .swapB => prefixedWords 0x30
  | .swapC => prefixedWords 0x31
  | .swapD => prefixedWords 0x32
  | .swapE => prefixedWords 0x33
  | .swapH => prefixedWords 0x34
  | .swapL => prefixedWords 0x35
  | .swapAtHl => prefixedWords 0x36
  | .swapA => prefixedWords 0x37
  | .srlB => prefixedWords 0x38
  | .srlC => prefixedWords 0x39
  | .srlD => prefixedWords 0x3A
  | .srlE => prefixedWords 0x3B
  | .srlH => prefixedWords 0x3C
  | .srlL => prefixedWords 0x3D
  | .srlAtHl => prefixedWords 0x3E
  | .srlA => prefixedWords 0x3F
  | .bit0B => prefixedWords 0x40
  | .bit0C => prefixedWords 0x41
  | .bit0D => prefixedWords 0x42
  | .bit0E => prefixedWords 0x43
  | .bit0H => prefixedWords 0x44
  | .bit0L => prefixedWords 0x45
  | .bit0AtHl => prefixedWords 0x46
  | .bit0A => prefixedWords 0x47
  | .bit1B => prefixedWords 0x48
  | .bit1C => prefixedWords 0x49
  | .bit1D => prefixedWords 0x4A
  | .bit1E => prefixedWords 0x4B
  | .bit1H => prefixedWords 0x4C
  | .bit1L => prefixedWords 0x4D
  | .bit1AtHl => prefixedWords 0x4E
  | .bit1A => prefixedWords 0x4F
  | .bit2B => prefixedWords 0x50
  | .bit2C => prefixedWords 0x51
  | .bit2D => prefixedWords 0x52
  | .bit2E => prefixedWords 0x53
  | .bit2H => prefixedWords 0x54
  | .bit2L => prefixedWords 0x55
  | .bit2AtHl => prefixedWords 0x56
  | .bit2A => prefixedWords 0x57
  | .bit3B => prefixedWords 0x58
  | .bit3C => prefixedWords 0x59
  | .bit3D => prefixedWords 0x5A
  | .bit3E => prefixedWords 0x5B
  | .bit3H => prefixedWords 0x5C
  | .bit3L => prefixedWords 0x5D
  | .bit3AtHl => prefixedWords 0x5E
  | .bit3A => prefixedWords 0x5F
  | .bit4B => prefixedWords 0x60
  | .bit4C => prefixedWords 0x61
  | .bit4D => prefixedWords 0x62
  | .bit4E => prefixedWords 0x63
  | .bit4H => prefixedWords 0x64
  | .bit4L => prefixedWords 0x65
  | .bit4AtHl => prefixedWords 0x66
  | .bit4A => prefixedWords 0x67
  | .bit5B => prefixedWords 0x68
  | .bit5C => prefixedWords 0x69
  | .bit5D => prefixedWords 0x6A
  | .bit5E => prefixedWords 0x6B
  | .bit5H => prefixedWords 0x6C
  | .bit5L => prefixedWords 0x6D
  | .bit5AtHl => prefixedWords 0x6E
  | .bit5A => prefixedWords 0x6F
  | .bit6B => prefixedWords 0x70
  | .bit6C => prefixedWords 0x71
  | .bit6D => prefixedWords 0x72
  | .bit6E => prefixedWords 0x73
  | .bit6H => prefixedWords 0x74
  | .bit6L => prefixedWords 0x75
  | .bit6AtHl => prefixedWords 0x76
  | .bit6A => prefixedWords 0x77
  | .bit7B => prefixedWords 0x78
  | .bit7C => prefixedWords 0x79
  | .bit7D => prefixedWords 0x7A
  | .bit7E => prefixedWords 0x7B
  | .bit7H => prefixedWords 0x7C
  | .bit7L => prefixedWords 0x7D
  | .bit7AtHl => prefixedWords 0x7E
  | .bit7A => prefixedWords 0x7F
  | .res0B => prefixedWords 0x80
  | .res0C => prefixedWords 0x81
  | .res0D => prefixedWords 0x82
  | .res0E => prefixedWords 0x83
  | .res0H => prefixedWords 0x84
  | .res0L => prefixedWords 0x85
  | .res0AtHl => prefixedWords 0x86
  | .res0A => prefixedWords 0x87
  | .res1B => prefixedWords 0x88
  | .res1C => prefixedWords 0x89
  | .res1D => prefixedWords 0x8A
  | .res1E => prefixedWords 0x8B
  | .res1H => prefixedWords 0x8C
  | .res1L => prefixedWords 0x8D
  | .res1AtHl => prefixedWords 0x8E
  | .res1A => prefixedWords 0x8F
  | .res2B => prefixedWords 0x90
  | .res2C => prefixedWords 0x91
  | .res2D => prefixedWords 0x92
  | .res2E => prefixedWords 0x93
  | .res2H => prefixedWords 0x94
  | .res2L => prefixedWords 0x95
  | .res2AtHl => prefixedWords 0x96
  | .res2A => prefixedWords 0x97
  | .res3B => prefixedWords 0x98
  | .res3C => prefixedWords 0x99
  | .res3D => prefixedWords 0x9A
  | .res3E => prefixedWords 0x9B
  | .res3H => prefixedWords 0x9C
  | .res3L => prefixedWords 0x9D
  | .res3AtHl => prefixedWords 0x9E
  | .res3A => prefixedWords 0x9F
  | .res4B => prefixedWords 0xA0
  | .res4C => prefixedWords 0xA1
  | .res4D => prefixedWords 0xA2
  | .res4E => prefixedWords 0xA3
  | .res4H => prefixedWords 0xA4
  | .res4L => prefixedWords 0xA5
  | .res4AtHl => prefixedWords 0xA6
  | .res4A => prefixedWords 0xA7
  | .res5B => prefixedWords 0xA8
  | .res5C => prefixedWords 0xA9
  | .res5D => prefixedWords 0xAA
  | .res5E => prefixedWords 0xAB
  | .res5H => prefixedWords 0xAC
  | .res5L => prefixedWords 0xAD
  | .res5AtHl => prefixedWords 0xAE
  | .res5A => prefixedWords 0xAF
  | .res6B => prefixedWords 0xB0
  | .res6C => prefixedWords 0xB1
  | .res6D => prefixedWords 0xB2
  | .res6E => prefixedWords 0xB3
  | .res6H => prefixedWords 0xB4
  | .res6L => prefixedWords 0xB5
  | .res6AtHl => prefixedWords 0xB6
  | .res6A => prefixedWords 0xB7
  | .res7B => prefixedWords 0xB8
  | .res7C => prefixedWords 0xB9
  | .res7D => prefixedWords 0xBA
  | .res7E => prefixedWords 0xBB
  | .res7H => prefixedWords 0xBC
  | .res7L => prefixedWords 0xBD
  | .res7AtHl => prefixedWords 0xBE
  | .res7A => prefixedWords 0xBF
  | .set0B => prefixedWords 0xC0
  | .set0C => prefixedWords 0xC1
  | .set0D => prefixedWords 0xC2
  | .set0E => prefixedWords 0xC3
  | .set0H => prefixedWords 0xC4
  | .set0L => prefixedWords 0xC5
  | .set0AtHl => prefixedWords 0xC6
  | .set0A => prefixedWords 0xC7
  | .set1B => prefixedWords 0xC8
  | .set1C => prefixedWords 0xC9
  | .set1D => prefixedWords 0xCA
  | .set1E => prefixedWords 0xCB
  | .set1H => prefixedWords 0xCC
  | .set1L => prefixedWords 0xCD
  | .set1AtHl => prefixedWords 0xCE
  | .set1A => prefixedWords 0xCF
  | .set2B => prefixedWords 0xD0
  | .set2C => prefixedWords 0xD1
  | .set2D => prefixedWords 0xD2
  | .set2E => prefixedWords 0xD3
  | .set2H => prefixedWords 0xD4
  | .set2L => prefixedWords 0xD5
  | .set2AtHl => prefixedWords 0xD6
  | .set2A => prefixedWords 0xD7
  | .set3B => prefixedWords 0xD8
  | .set3C => prefixedWords 0xD9
  | .set3D => prefixedWords 0xDA
  | .set3E => prefixedWords 0xDB
  | .set3H => prefixedWords 0xDC
  | .set3L => prefixedWords 0xDD
  | .set3AtHl => prefixedWords 0xDE
  | .set3A => prefixedWords 0xDF
  | .set4B => prefixedWords 0xE0
  | .set4C => prefixedWords 0xE1
  | .set4D => prefixedWords 0xE2
  | .set4E => prefixedWords 0xE3
  | .set4H => prefixedWords 0xE4
  | .set4L => prefixedWords 0xE5
  | .set4AtHl => prefixedWords 0xE6
  | .set4A => prefixedWords 0xE7
  | .set5B => prefixedWords 0xE8
  | .set5C => prefixedWords 0xE9
  | .set5D => prefixedWords 0xEA
  | .set5E => prefixedWords 0xEB
  | .set5H => prefixedWords 0xEC
  | .set5L => prefixedWords 0xED
  | .set5AtHl => prefixedWords 0xEE
  | .set5A => prefixedWords 0xEF
  | .set6B => prefixedWords 0xF0
  | .set6C => prefixedWords 0xF1
  | .set6D => prefixedWords 0xF2
  | .set6E => prefixedWords 0xF3
  | .set6H => prefixedWords 0xF4
  | .set6L => prefixedWords 0xF5
  | .set6AtHl => prefixedWords 0xF6
  | .set6A => prefixedWords 0xF7
  | .set7B => prefixedWords 0xF8
  | .set7C => prefixedWords 0xF9
  | .set7D => prefixedWords 0xFA
  | .set7E => prefixedWords 0xFB
  | .set7H => prefixedWords 0xFC
  | .set7L => prefixedWords 0xFD
  | .set7AtHl => prefixedWords 0xFE
  | .set7A => prefixedWords 0xFF

/-- The bytes of a whole instruction: 0xCB before a prefixed entry (R122). -/
def encode (i : Instr) : List Byte :=
  if (encodeEntry i).prefixed then 0xCB#8 :: (encodeEntry i).bytes else (encodeEntry i).bytes

/-- `op + 256 * PREFIX`, the table index of an instruction (R121). -/
def tableIndex (i : Instr) : Nat :=
  ((encodeEntry i).bytes.headD 0).toNat + (if (encodeEntry i).prefixed then 256 else 0)

/-! ### The host's table words -/

/-- The bytes a table word stands for, and whether they are read in prefixed-fetch state (log 13).
The table numbers a 16-bit row with 0xCB in bits 15..8 (`match` 0xCB00..0xCBFF); any other word has its first byte in bits
7..0, and a first byte 0xCB followed by a second byte is a prefixed pair too. -/
def tableWordBytes (nbits w : Nat) : Bool × List Byte :=
  let b0 := BitVec.ofNat 8 w
  let b1 := BitVec.ofNat 8 (w / 256)
  let b2 := BitVec.ofNat 8 (w / 65536)
  if nbits ≤ 8 then (false, [b0, 0, 0])
  else if nbits ≤ 16 ∧ b1 = 0xCB#8 then (true, [b0, 0, 0])
  else if b0 = 0xCB#8 then (true, [b1, 0, 0])
  else (false, [b0, b1, b2])

/-- The instruction the decoder reads from a table word. -/
def decodeTableWord (nbits w : Nat) : Option Instr :=
  match decode (tableWordBytes nbits w).1 (tableWordBytes nbits w).2 with
  | .ok (i, _) => some i
  | .error _ => none

end Sys2Proof
end

