-- ==== Sys2Proof/Config.lean ====
section
/-!
DEFINITION. The parameters of the machine (00_scope.md R12) and the free values (values the spec leaves open).
The record `Config` is held in `State.cfg` and written by no transition (log 2): it is how "the model takes the value as
an argument". TABLE is held as its differences from the reference table (log 9); INITIAL_MEMORY is an argument of `powerOn`.
-/

namespace Sys2Proof

/-- `HALT_POLICY` (R12, R341). -/
inductive HaltPolicy where
  | nop
  | spin
deriving DecidableEq, Repr, Inhabited

/-- `PREFIX_CYCLE_SPLIT` (R12, R132). -/
inductive CycleSplit where
  | split
  | bothFull
deriving DecidableEq, Repr, Inhabited

/-- `PPU_IRQ_MODE` (R12, R446 to R448). -/
inductive PpuIrqMode where
  | level
  | edge
deriving DecidableEq, Repr, Inhabited

/-- `LINE_WRAP` (R12, R443). -/
inductive LineWrap where
  | subtract
  | zero
deriving DecidableEq, Repr, Inhabited

/-- `SHADE`: the grey level of each colour id 0..3 (R12, R456). -/
structure Shade where
  id0 : Byte
  id1 : Byte
  id2 : Byte
  id3 : Byte
deriving DecidableEq, Repr, Inhabited

/-! ### The descriptor table (30_encoding.md R120) -/

/-- What a flag mask's letter says of one flag (R138). -/
inductive FlagEffect where
  /-- `-`: unchanged. -/
  | kept
  /-- `0`: written with 0. -/
  | zero
  /-- `1`: written with 1. -/
  | one
  /-- A letter: written from the result. -/
  | result
deriving DecidableEq, Repr, Inhabited

/-- A flag mask, for Z, N, H, C (R138). -/
structure FlagMask where
  z : FlagEffect
  n : FlagEffect
  h : FlagEffect
  c : FlagEffect
deriving DecidableEq, Repr, Inhabited

/-- The operand-source selectors (R137). -/
inductive Selector where
  | none
  | imm8
  | imm16
deriving DecidableEq, Repr, Inhabited

/-- A descriptor of TABLE (R120): one of its 512 entries. -/
structure TableEntry where
  /-- Bytes the engine adds to PC when it fetches the entry. -/
  length : Nat
  /-- M-cycles charged when the effect leaves PC unchanged. -/
  mcycles : Nat
  /-- `mcycles_branch_taken`: M-cycles charged when the effect changes PC. -/
  mcyclesTaken : Nat
  /-- The first operand-source selector. -/
  operand1 : Selector
  /-- The second operand-source selector. -/
  operand2 : Selector
  /-- The flag mask, informational (R138). -/
  flags : FlagMask
  /-- The effect: the instruction kind, whose immediate is filled in from the loaded operands. -/
  effect : Instr
deriving DecidableEq, Repr, Inhabited

/-! ### The register addresses (10_state.md R50) -/

/-- `IO_ADDR`: the address of each I/O register, under its name (R50). -/
structure IoAddr where
  joyp : Word
  sb : Word
  sc : Word
  div : Word
  tima : Word
  tma : Word
  tac : Word
  /-- IF. -/
  ifReg : Word
  /-- NR10, the first of the 23 consecutive bytes of the sound registers. -/
  sound : Word
  lcdc : Word
  stat : Word
  scy : Word
  scx : Word
  ly : Word
  lyc : Word
  dma : Word
  bgp : Word
  obp0 : Word
  obp1 : Word
  wy : Word
  wx : Word
  /-- IE. -/
  ieReg : Word
deriving DecidableEq, Repr, Inhabited

/-- The addresses of the map: the named registers, then the sound registers. -/
def IoAddr.addresses (m : IoAddr) : List Word :=
  [m.joyp, m.sb, m.sc, m.div, m.tima, m.tma, m.tac, m.ifReg, m.lcdc, m.stat, m.scy, m.scx, m.ly, m.lyc, m.dma, m.bgp,
   m.obp0, m.obp1, m.wy, m.wx, m.ieReg]
  ++ (List.range 23).map (fun i => m.sound + BitVec.ofNat 16 i)

/-! ### The parameters -/

/-- The named parameters of R12, each under its own name. -/
structure Config where
  /-- `TABLE` (D2), as the entries in which it differs from the reference table: (table index, descriptor), indices rising. An
  index with no entry has the reference descriptor, so every table of 512 descriptors can be written (log 9). -/
  table : List (Nat × TableEntry)
  /-- `IO_ADDR` (D5). -/
  io : IoAddr
  /-- `INSTRS_PER_FRAME`, OPEN (D21). -/
  instrsPerFrame : Nat
  /-- `SAVE_CAPACITY`, OPEN (D22). -/
  saveCapacity : Nat
  /-- `REWIND_PUSH_PER_FRAME` (D23). -/
  rewindPushPerFrame : Bool
  /-- `POLL_MID_PREFIX` (D10). -/
  pollMidPrefix : Bool
  /-- `DISPATCH_CLEARS_IME` (D8). -/
  dispatchClearsIme : Bool
  /-- `HALT_POLICY` (D12). -/
  haltPolicy : HaltPolicy
  /-- `PREFIX_CYCLE_SPLIT` (D15). -/
  prefixCycleSplit : CycleSplit
  /-- `TIMA_RELOAD_FROM_TMA` (D27). -/
  timaReloadFromTma : Bool
  /-- `PPU_IRQ_MODE` (D33). -/
  ppuIrqMode : PpuIrqMode
  /-- `LINE_WRAP` (D31). -/
  lineWrap : LineWrap
  /-- `BG_SCROLL` (D36). -/
  bgScroll : Bool
  /-- `SPRITE_FLIPS` (D37). -/
  spriteFlips : Bool
  /-- `SHADE` (D38). -/
  shade : Shade
  /-- `BREAK_OPCODES`, a set of table indices 0..511 (D19). -/
  breakOpcodes : List Nat
  /-- `POST_BOOT_IO` (D42). -/
  postBootIo : List (Word × Byte)
  /-- `TRACE_ENABLED` (D45). -/
  traceEnabled : Bool
deriving DecidableEq, Repr, Inhabited

/-- FREE VALUE (log 6): the framebuffer byte at an index of a line never drawn since power-on (R71, U4). -/
opaque Config.framebufferAtPowerOn : Nat → Byte

/-- FREE VALUE (log 8): the header byte at an offset past the end of a loaded ROM image (R504 states none). -/
opaque Config.absentHeaderByte : Nat → Byte

/-- FREE VALUE (log 19): the immediate, at a table index, of an entry whose selectors load none for its effect (R120, R165). -/
opaque Config.unloadedOperand : Nat → Word

end Sys2Proof
end

