-- ==== Sys2Proof/Machine/Parameters.lean ====
section
/-!
DEFINITION. The reference values of the parameters (00_scope.md R12; 70_reset_and_hazards.md R502; 10_state.md R50).
-/

namespace Sys2Proof.Machine

/-- The reference `IO_ADDR` (R50). -/
def referenceIoAddr : IoAddr where
  joyp := 0xFF00
  sb := 0xFF01
  sc := 0xFF02
  div := 0xFF04
  tima := 0xFF05
  tma := 0xFF06
  tac := 0xFF07
  ifReg := 0xFF0F
  sound := 0xFF10
  lcdc := 0xFF40
  stat := 0xFF41
  scy := 0xFF42
  scx := 0xFF43
  ly := 0xFF44
  lyc := 0xFF45
  dma := 0xFF46
  bgp := 0xFF47
  obp0 := 0xFF48
  obp1 := 0xFF49
  wy := 0xFF4A
  wx := 0xFF4B
  ieReg := 0xFFFF

/-- The first byte of OAM (R67). -/
def oamBase : Word := 0xFE00#16

/-- The reference `POST_BOOT_IO` (R502): timer, sound, LCD registers and IE. -/
def referencePostBootIo : List (Word × Byte) :=
  [(0xFF05, 0x00), (0xFF06, 0x00), (0xFF07, 0x00),
   (0xFF10, 0x80), (0xFF11, 0xBF), (0xFF12, 0xF3), (0xFF14, 0xBF)]
  ++ [(0xFF16, 0x3F), (0xFF17, 0x00), (0xFF19, 0xBF), (0xFF1A, 0x7F),
   (0xFF1B, 0xFF), (0xFF1C, 0x9F), (0xFF1E, 0xBF)]
  ++ [(0xFF20, 0xFF), (0xFF21, 0x00), (0xFF22, 0x00), (0xFF23, 0xBF),
   (0xFF24, 0x77), (0xFF25, 0xF3), (0xFF26, 0xF1)]
  ++ [(0xFF40, 0x91), (0xFF42, 0x00), (0xFF43, 0x00), (0xFF45, 0x00),
   (0xFF47, 0xFC), (0xFF48, 0xFF), (0xFF49, 0xFF), (0xFF4A, 0x00),
   (0xFF4B, 0x00), (0xFFFF, 0x00)]

/-- The reference parameters of R12. The two OPEN ones are DESIGN CHOICE values (log 4): the machine of `State.reset` has
them, and no statement rests on them. -/
def referenceConfig : Config where
  table := []
  io := referenceIoAddr
  instrsPerFrame := 4096
  saveCapacity := 8
  rewindPushPerFrame := true
  pollMidPrefix := false
  dispatchClearsIme := true
  haltPolicy := .nop
  prefixCycleSplit := .split
  timaReloadFromTma := false
  ppuIrqMode := .level
  lineWrap := .subtract
  bgScroll := true
  spriteFlips := true
  shade := ⟨0xFF, 0xAA, 0x55, 0x00⟩
  breakOpcodes := []
  postBootIo := referencePostBootIo
  traceEnabled := false

end Sys2Proof.Machine
end

