-- ==== Sys2Proof/Machine/Memory.lean ====
section
/-!
DEFINITION. The memory image (10_state.md R39): 65536 bytes, held as a list of (address, byte) cells in one canonical form:
addresses strictly rising and below 65536, no cell equal to what an unlisted address reads as.
An unlisted address reads as the reset contents: its POST_BOOT_IO byte (R502) where it has one, 0x00 elsewhere (log 5).
`Memory.read` and `Memory.write` obey read-after-write for every list; `Memory.write` keeps the canonical form.
-/

namespace Sys2Proof.Machine

/-- The memory image as cells. -/
abbrev Memory := List Host.Cell

/-- What an address reads as when the list has no cell for it (R502, R71; DESIGN CHOICE 0x00 outside the list, log 5). -/
def Memory.unlisted (a : Nat) : Byte :=
  if a < 0xFF05 then 0
  else match referencePostBootIo.find? (fun e => e.1.toNat == a) with
    | some e => e.2
    | none => 0

/-- The byte at an address. -/
def Memory.read : Memory → Nat → Byte
  | [], a => Memory.unlisted a
  | (b, w) :: m, a => if b == a then w else Memory.read m a

/-- Put a cell before the first cell of a greater address. -/
def Memory.insertCell : Memory → Nat → Byte → Memory
  | [], a, v => [(a, v)]
  | (b, w) :: m, a, v => if a < b then (a, v) :: (b, w) :: m else (b, w) :: Memory.insertCell m a v

/-- Remove every cell of an address. -/
def Memory.erase (m : Memory) (a : Nat) : Memory := m.filter (fun c => !(c.1 == a))

/-- `mem[a] <- v`. A byte equal to what the unlisted address reads as leaves no cell. -/
def Memory.write (m : Memory) (a : Nat) (v : Byte) : Memory :=
  if v = Memory.unlisted a then Memory.erase m a else Memory.insertCell (Memory.erase m a) a v

/-- The canonical form: addresses rise strictly, lie in the 64 KiB space, and no cell repeats the unlisted value. -/
abbrev Memory.wf (m : Memory) : Prop :=
  m.Pairwise (fun c d => c.1 < d.1) ∧ ∀ c ∈ m, c.1 < 65536 ∧ c.2 ≠ Memory.unlisted c.1

end Sys2Proof.Machine
end

