-- ==== Sys2Proof/Machine/State.lean ====
section
/-!
DEFINITION. The machine's state (10_state.md R30 to R49), all of it plain data, and the state right after reset.
The CPU registers, the memory image, the LCD timing, the timer budgets, the framebuffer and the joypad are the parts a
snapshot holds (R46, R470); the ring, the cartridge, the orchestrator's fields and the sinks are the rest.
-/

namespace Sys2Proof.Machine

/-- CpuRegisters (R31): six 16-bit registers, IME and PREFIX. -/
structure Cpu where
  af : Word
  bc : Word
  de : Word
  hl : Word
  sp : Word
  pc : Word
  /-- `interrupt_enable`, the master enable flip-flop IME (R36). -/
  ime : Bool
  /-- `prefix_op`, the flag PREFIX: true is prefixed-fetch state (R37). -/
  prefixOp : Bool
deriving DecidableEq, Repr, Inhabited

/-- LcdTimingState (R41). -/
structure LcdTiming where
  scanlineCycles : Nat
  ly : Nat
deriving DecidableEq, Repr, Inhabited

/-- TimerState (R42): the two countdown budgets, integers (D55). -/
structure TimerState where
  clocksTillDivInc : Int
  clocksTillTimaInc : Int
deriving DecidableEq, Repr, Inhabited

/-- JoypadState (R44): true is held down. -/
structure Joypad where
  up : Bool
  down : Bool
  left : Bool
  right : Bool
  a : Bool
  b : Bool
  start : Bool
  select : Bool
deriving DecidableEq, Repr, Inhabited

/-- CartridgeState (R45). -/
structure Cartridge where
  title : List Byte
  colorFlag : Bool
  cartType : Byte
  romSize : Nat
  ramSize : Nat
  rom : List Byte
deriving DecidableEq, Repr, Inhabited

/-- The framebuffer (R43) as the lines drawn since power-on: (line y, the 480 bytes of its 160 pixels), y strictly rising.
A line with no entry has never been drawn (log 6). -/
abbrev Framebuffer := List (Nat × List Byte)

/-- A snapshot (R46, R470). -/
structure Snapshot where
  cpu : Cpu
  mem : Memory
  lcd : LcdTiming
  timer : TimerState
  framebuffer : Framebuffer
  joypad : Joypad
deriving DecidableEq, Repr, Inhabited

/-- SaveStateStack (R46): `SAVE_CAPACITY` slots (none: never pushed), the write cursor, the valid count. -/
structure SaveRing where
  slots : List (Option Snapshot)
  cursor : Nat
  count : Nat
deriving DecidableEq, Repr, Inhabited

/-- `run_state` (R47, R177). -/
inductive RunState where
  | running
  | paused
  | step
deriving DecidableEq, Repr, Inhabited

/-- One line of the trace sink (R178): the registers, PC and the four bytes at PC. -/
structure TraceLine where
  a : Byte
  f : Byte
  b : Byte
  c : Byte
  d : Byte
  e : Byte
  h : Byte
  l : Byte
  sp : Word
  pc : Word
  byte0 : Byte
  byte1 : Byte
  byte2 : Byte
  byte3 : Byte
deriving DecidableEq, Repr, Inhabited

/-- What the host may do between two frames (R176, R500, R507). Its types refuse what U34 refuses. -/
inductive HostAction where
  /-- Write the eight joypad booleans. -/
  | setJoypad (j : Joypad)
  /-- Write the run mode. -/
  | setRunState (r : RunState)
  /-- Write the breakpoint PC. -/
  | setBreakpoint (b : Option Word)
  /-- Pop the save-state stack (R472). -/
  | popSaveState
  /-- Request a reset (R500). -/
  | requestReset
  /-- Load a cartridge (R507). -/
  | loadCartridge (rom : List Byte)
deriving DecidableEq, Repr

/-- The machine's state. -/
structure State where
  cpu : Cpu
  mem : Memory
  lcd : LcdTiming
  timer : TimerState
  framebuffer : Framebuffer
  joypad : Joypad
  /-- The cartridge, none before the first load (log 8). -/
  cart : Option Cartridge
  ring : SaveRing
  runState : RunState
  /-- The "breakpoint PC" the GUI writes back (R47). -/
  breakpoint : Option Word
  /-- The breakpoint-trigger flag (R47, R348). -/
  breakFlag : Bool
  /-- The slots used in the current batch (R47, R173). -/
  slotsDone : Nat
  /-- The bytes written to SB, oldest first (R48, R86). -/
  serialOut : List Byte
  /-- The trace lines, oldest first (R48, R178). -/
  traceOut : List TraceLine
  /-- The parameters of R12; no transition writes them (log 2). -/
  cfg : Config
  /-- The model's own: inside a host frame's batch (log 1). -/
  inBatch : Bool
  /-- The model's own: the host's actions at the coming frame boundaries, nearest first (log 3). -/
  hostScript : List (List HostAction)
  /-- The model's own: `pc0`, the address of the opcode byte last fetched (40_cpu_engine.md R163; log 20). -/
  pc0 : Word
deriving DecidableEq, Repr

/-- Why the machine has no next state (`Stuck`, R19). -/
inductive Fault where
  /-- An undefined opcode byte was fetched in normal-fetch state (R346): raised by the meanings of the eleven undefined rows.
  Safe: the spec itself gives no next state, and the model goes no further than the hardware does. -/
  | undefinedOpcode (op : Byte) (pc0 : Word)
deriving DecidableEq, Repr

/-- Why an instruction has no meaning. -/
inductive Refusal where
  /-- Not modelled: raised by an arm of `exec` that gives its instruction no meaning. Safe. -/
  | notModelled (mnemonic : String)
deriving DecidableEq, Repr

/-- What an instruction's meaning answers. -/
abbrev Result := Host.Outcome State Fault Refusal

/-! ### One update per field -/

/-- Replace the CPU registers. -/
def State.setCpu (s : State) (v : Cpu) : State := { s with cpu := v }
/-- Replace the memory image. -/
def State.setMem (s : State) (v : Memory) : State := { s with mem := v }
/-- Replace the LCD timing state. -/
def State.setLcd (s : State) (v : LcdTiming) : State := { s with lcd := v }
/-- Replace the timer budgets. -/
def State.setTimer (s : State) (v : TimerState) : State := { s with timer := v }
/-- Replace the framebuffer. -/
def State.setFramebuffer (s : State) (v : Framebuffer) : State := { s with framebuffer := v }
/-- Replace the joypad booleans. -/
def State.setJoypad (s : State) (v : Joypad) : State := { s with joypad := v }
/-- Replace the cartridge. -/
def State.setCart (s : State) (v : Option Cartridge) : State := { s with cart := v }
/-- Replace the save-state ring. -/
def State.setRing (s : State) (v : SaveRing) : State := { s with ring := v }
/-- Replace the run mode. -/
def State.setRunState (s : State) (v : RunState) : State := { s with runState := v }
/-- Replace the breakpoint PC. -/
def State.setBreakpoint (s : State) (v : Option Word) : State := { s with breakpoint := v }
/-- Replace the breakpoint-trigger flag. -/
def State.setBreakFlag (s : State) (v : Bool) : State := { s with breakFlag := v }
/-- Replace the slot count. -/
def State.setSlotsDone (s : State) (v : Nat) : State := { s with slotsDone := v }
/-- Replace the serial sink's history. -/
def State.setSerialOut (s : State) (v : List Byte) : State := { s with serialOut := v }
/-- Replace the trace sink's history. -/
def State.setTraceOut (s : State) (v : List TraceLine) : State := { s with traceOut := v }
/-- Enter or leave a batch. -/
def State.setInBatch (s : State) (v : Bool) : State := { s with inBatch := v }
/-- Replace the host's coming actions. -/
def State.setHostScript (s : State) (v : List (List HostAction)) : State := { s with hostScript := v }
/-- Record the address of the opcode byte being fetched. -/
def State.setPc0 (s : State) (v : Word) : State := { s with pc0 := v }

/-! ### Reset -/

/-- The machine right after reset (R70, R71, R501), from power-on with INITIAL_MEMORY as log 5 says: memory lists nothing, for
an unlisted address reads as its reset contents. The run mode is the power-on one, Paused (R71); log 14 says how a program
comes to run. -/
def State.reset : State where
  cpu :=
    { af := 0x01B0, bc := 0x0013, de := 0x00D8, hl := 0x014D, sp := 0xFFFE, pc := 0x0100, ime := false, prefixOp := false }
  mem := []
  lcd := { scanlineCycles := 0, ly := 0 }
  timer := { clocksTillDivInc := 256, clocksTillTimaInc := 1024 }
  framebuffer := []
  joypad :=
    { up := false, down := false, left := false, right := false, a := false, b := false, start := false, select := false }
  cart := none
  ring := { slots := List.replicate referenceConfig.saveCapacity none, cursor := 0, count := 0 }
  runState := .paused
  breakpoint := none
  breakFlag := false
  slotsDone := 0
  serialOut := []
  traceOut := []
  cfg := referenceConfig
  inBatch := false
  hostScript := []
  pc0 := 0

end Sys2Proof.Machine

/-- FREE VALUE (log 7): the contents of a save-state slot that no push has written (R46, U5). -/
opaque Sys2Proof.Config.neverPushedSlot : Nat → Sys2Proof.Machine.Snapshot
end

