-- ==== Sys2Proof/Machine/Operands.lean ====
section
/-!
DEFINITION. Register operands (10_state.md R31 to R33; 30_encoding.md R126 to R129): the 8-bit halves, the pairs, the flags of
F as they are read, and the condition field.
-/

namespace Sys2Proof.Machine

/-- Write AF. -/
def State.setAf (s : State) (v : Word) : State := s.setCpu { s.cpu with af := v }
/-- Write BC. -/
def State.setBc (s : State) (v : Word) : State := s.setCpu { s.cpu with bc := v }
/-- Write DE. -/
def State.setDe (s : State) (v : Word) : State := s.setCpu { s.cpu with de := v }
/-- Write HL. -/
def State.setHl (s : State) (v : Word) : State := s.setCpu { s.cpu with hl := v }
/-- Write SP. -/
def State.setSp (s : State) (v : Word) : State := s.setCpu { s.cpu with sp := v }
/-- `pc <- v`. -/
def State.setPc (s : State) (v : Word) : State := s.setCpu { s.cpu with pc := v }
/-- Write IME (R36). -/
def State.setIme (s : State) (v : Bool) : State := s.setCpu { s.cpu with ime := v }
/-- Write PREFIX (R37). -/
def State.setPrefixOp (s : State) (v : Bool) : State := s.setCpu { s.cpu with prefixOp := v }

/-- A = AF[15:8] (R31). -/
def State.regA (s : State) : Byte := hiByte s.cpu.af
/-- F = AF[7:0] (R31). -/
def State.regF (s : State) : Byte := loByte s.cpu.af

/-- Read a register of the field r8 (R31, R126). -/
def State.r8 (s : State) : R8 → Byte
  | .b => hiByte s.cpu.bc
  | .c => loByte s.cpu.bc
  | .d => hiByte s.cpu.de
  | .e => loByte s.cpu.de
  | .h => hiByte s.cpu.hl
  | .l => loByte s.cpu.hl
  | .a => hiByte s.cpu.af

/-- Write a register of the field r8: only those 8 bits of the pair change (R31). -/
def State.setR8 (s : State) (r : R8) (v : Byte) : State :=
  match r with
  | .b => s.setBc (wordOf v (loByte s.cpu.bc))
  | .c => s.setBc (wordOf (hiByte s.cpu.bc) v)
  | .d => s.setDe (wordOf v (loByte s.cpu.de))
  | .e => s.setDe (wordOf (hiByte s.cpu.de) v)
  | .h => s.setHl (wordOf v (loByte s.cpu.hl))
  | .l => s.setHl (wordOf (hiByte s.cpu.hl) v)
  | .a => s.setAf (wordOf v (loByte s.cpu.af))

/-- Write F (R33). -/
def State.setF (s : State) (v : Byte) : State := s.setAf (wordOf (hiByte s.cpu.af) v)

/-- Read a pair of the field r16 (R127). -/
def State.r16 (s : State) : R16 → Word
  | .bc => s.cpu.bc
  | .de => s.cpu.de
  | .hl => s.cpu.hl
  | .sp => s.cpu.sp

/-- Write a pair of the field r16. -/
def State.setR16 (s : State) (r : R16) (v : Word) : State :=
  match r with
  | .bc => s.setBc v
  | .de => s.setDe v
  | .hl => s.setHl v
  | .sp => s.setSp v

/-- Read a pair of the field r16stk (R128). -/
def State.r16Stk (s : State) : R16Stk → Word
  | .bc => s.cpu.bc
  | .de => s.cpu.de
  | .hl => s.cpu.hl
  | .af => s.cpu.af

/-- Write a popped word to a pair of the field r16stk: F keeps its low nibble 0 (R34, R225). -/
def State.setR16Stk (s : State) (r : R16Stk) (v : Word) : State :=
  match r with
  | .bc => s.setBc v
  | .de => s.setDe v
  | .hl => s.setHl v
  | .af => s.setAf (wordOf (hiByte v) (loByte v &&& 0xF0#8))

/-- Zf = F[7] (R33). -/
def State.zf (s : State) : Bool := s.regF.getLsbD 7
/-- Nf = F[6] (R33). -/
def State.nf (s : State) : Bool := s.regF.getLsbD 6
/-- Hf = F[5] (R33). -/
def State.hf (s : State) : Bool := s.regF.getLsbD 5
/-- Cf = F[4] (R33). -/
def State.cf (s : State) : Bool := s.regF.getLsbD 4

/-- `cond(cc)` (R129). -/
def State.cond (s : State) : Cond → Bool
  | .nz => !s.zf
  | .z => s.zf
  | .nc => !s.cf
  | .c => s.cf

/-- The bit number of a field `bbb` (R131). -/
def bitNumber : Bit3 → Nat
  | .b0 => 0 | .b1 => 1 | .b2 => 2 | .b3 => 3 | .b4 => 4 | .b5 => 5 | .b6 => 6 | .b7 => 7

end Sys2Proof.Machine
end

