-- ==== Sys2Proof/Machine/Flags.lean ====
section
/-!
DEFINITION. Flag computations and the arithmetic helpers of the instruction rules: Add8, Sub8, the logic helpers (42_alu8.md
R240 to R242), INC, DEC and DAA (R267 to R271), the 16-bit additions (43_alu16.md R280, R283), Shift (44_rotate_shift_bit.md
R290). Each gives its result and the flags it writes.
-/

namespace Sys2Proof.Machine

/-- The four flags (R33). -/
structure Flags where
  z : Bool
  n : Bool
  h : Bool
  c : Bool
deriving DecidableEq, Repr

/-- F from its flags; F[3:0] is written as 0 (R33, R34). -/
def flagByte (g : Flags) : Byte :=
  BitVec.ofBool g.z ++ BitVec.ofBool g.n ++ BitVec.ofBool g.h ++ BitVec.ofBool g.c ++ 0#4

/-- The flags as they stand. -/
def State.flags (s : State) : Flags := ⟨s.zf, s.nf, s.hf, s.cf⟩

/-- Write all four flags. -/
def State.setFlags (s : State) (g : Flags) : State := s.setF (flagByte g)

/-- `Add8(a, b, cin)` (R240). -/
def add8 (a b : Byte) (cin : Bool) : Byte × Flags :=
  let t := a.toNat + b.toNat + cin.toNat
  let r := BitVec.ofNat 8 t
  (r, { z := r == 0, n := false
        h := decide ((a &&& 0x0F#8).toNat + (b &&& 0x0F#8).toNat + cin.toNat > 0x0F)
        c := decide (t > 0xFF) })

/-- `Sub8(a, b, cin)` (R241). -/
def sub8 (a b : Byte) (cin : Bool) : Byte × Flags :=
  let t : Int := (a.toNat : Int) - (b.toNat : Int) - (cin.toNat : Int)
  let r := BitVec.ofInt 8 t
  (r, { z := r == 0, n := true
        h := decide ((a &&& 0x0F#8).toNat < (b &&& 0x0F#8).toNat + cin.toNat)
        c := decide (t < 0) })

/-- `And8(a, b)` (R242). -/
def and8 (a b : Byte) : Byte × Flags := (a &&& b, { z := (a &&& b) == 0, n := false, h := true, c := false })

/-- `Xor8(a, b)` (R242). -/
def xor8 (a b : Byte) : Byte × Flags := (a ^^^ b, { z := (a ^^^ b) == 0, n := false, h := false, c := false })

/-- `Or8(a, b)` (R242). -/
def or8 (a b : Byte) : Byte × Flags := (a ||| b, { z := (a ||| b) == 0, n := false, h := false, c := false })

/-- The result and flags of an 8-bit ALU operation on A and its second operand; `cin` is Cf before it (R243 to R266). -/
def alu8 (op : AluOp) (a b : Byte) (cin : Bool) : Byte × Flags :=
  match op with
  | .add => add8 a b false
  | .adc => add8 a b cin
  | .sub => sub8 a b false
  | .sbc => sub8 a b cin
  | .and => and8 a b
  | .xor => xor8 a b
  | .or => or8 a b
  | .cp => sub8 a b false

/-- INC of a byte (R267, R268): C is the one given, unchanged. -/
def inc8 (v : Byte) (c : Bool) : Byte × Flags :=
  (v + 1, { z := (v + 1) == 0, n := false, h := (v &&& 0x0F#8) == 0x0F#8, c := c })

/-- DEC of a byte (R269, R270): C is the one given, unchanged. -/
def dec8 (v : Byte) (c : Bool) : Byte × Flags :=
  (v - 1, { z := (v - 1) == 0, n := true, h := (v &&& 0x0F#8) == 0x00#8, c := c })

/-- DAA (R271): the corrections in the rule's order. -/
def daa8 (a : Byte) (g : Flags) : Byte × Flags :=
  if g.n then
    let a1 := if g.c then a - 0x60#8 else a
    let a2 := if g.h then a1 - 0x06#8 else a1
    (a2, { z := a2 == 0, n := true, h := false, c := g.c })
  else
    let high := g.c || decide (a.toNat > 0x99)
    let a1 := if high then a + 0x60#8 else a
    let a2 := if g.h || decide ((a1 &&& 0x0F#8).toNat > 0x09) then a1 + 0x06#8 else a1
    (a2, { z := a2 == 0, n := false, h := false, c := high })

/-- `SpAdd(e8)` (R280): H and C come from the unsigned addition of SP's low byte and the displacement byte. -/
def spAdd (sp : Word) (u : Byte) : Word × Flags :=
  (sp + sext16 u,
    { z := false, n := false
      h := decide ((sp &&& 0x000F#16).toNat + (u &&& 0x0F#8).toNat > 0x0F)
      c := decide ((sp &&& 0x00FF#16).toNat + u.toNat > 0xFF) })

/-- ADD HL,rr (R283): Z is the one given, unchanged. -/
def addHl16 (hl v : Word) (z : Bool) : Word × Flags :=
  let t := hl.toNat + v.toNat
  (BitVec.ofNat 16 t,
    { z := z, n := false
      h := decide ((hl &&& 0x0FFF#16).toNat + (v &&& 0x0FFF#16).toNat > 0x0FFF)
      c := decide (t > 0xFFFF) })

/-- `Shift(kind, v)` with the carry before the instruction: the result and the new carry (R290). -/
def shift8 (k : ShiftKind) (v : Byte) (cf : Bool) : Byte × Bool :=
  let cbit : Byte := (BitVec.ofBool cf).setWidth 8
  match k with
  | .rlc => ((v <<< 1) ||| ((BitVec.ofBool (v.getLsbD 7)).setWidth 8), v.getLsbD 7)
  | .rrc => ((v >>> 1) ||| (((BitVec.ofBool (v.getLsbD 0)).setWidth 8) <<< 7), v.getLsbD 0)
  | .rl => ((v <<< 1) ||| cbit, v.getLsbD 7)
  | .rr => ((v >>> 1) ||| (cbit <<< 7), v.getLsbD 0)
  | .sla => (v <<< 1, v.getLsbD 7)
  | .sra => ((v >>> 1) ||| (v &&& 0x80#8), v.getLsbD 0)
  | .swap => ((v <<< 4) ||| (v >>> 4), false)
  | .srl => (v >>> 1, v.getLsbD 0)

/-- The prefixed forms' result and flags (R290): Z from the result. -/
def shiftFlags (k : ShiftKind) (v : Byte) (cf : Bool) : Byte × Flags :=
  ((shift8 k v cf).1, { z := (shift8 k v cf).1 == 0, n := false, h := false, c := (shift8 k v cf).2 })

end Sys2Proof.Machine
end

