-- ==== Sys2Proof/Machine/Ops.lean ====
section
/-!
DEFINITION. The memory bus (20_memory.md R80 to R89), the stack (41_loads.md R200, R201), taking an interrupt and returning
from it (60_exceptions.md R403; 45_control.md R329).
-/

namespace Sys2Proof.Machine

/-! ### The direct layer (R80) -/

/-- `DirectRead(a)`. -/
def directRead (s : State) (a : Word) : Byte := Memory.read s.mem a.toNat

/-- `DirectWrite(a, v)`. -/
def directWrite (s : State) (a : Word) (v : Byte) : State := s.setMem (Memory.write s.mem a.toNat v)

/-! ### The mediated layer (R81 to R88) -/

/-- `MemRead(a, 1)`: the same as the direct read (R81). -/
def memRead (s : State) (a : Word) : Byte := directRead s a

/-- The OAM DMA copy from page `v`: 160 bytes, ascending, through the direct layer (R84). -/
def oamDma (s : State) (v : Byte) : State :=
  (List.range 160).foldl
    (fun t i => directWrite t (oamBase + BitVec.ofNat 16 i) (directRead t (wordOf v 0 + BitVec.ofNat 16 i))) s

/-- `MemWrite(a, 1, v)`: the five cases of R82, in its order (R83 to R87). -/
def memWrite (s : State) (a : Word) (v : Byte) : State :=
  if a.toNat ≤ 0x7FFF then s
  else if a = s.cfg.io.dma then oamDma s v
  else if a = s.cfg.io.div then directWrite s s.cfg.io.div 0
  else if a = s.cfg.io.sb then s.setSerialOut (s.serialOut ++ [v])
  else directWrite s a v

/-- `MemRead(a, 2)`: little-endian, `a + 1` wraps (R88). -/
def memRead16 (s : State) (a : Word) : Word := wordOf (memRead s (a + 1)) (memRead s a)

/-- `MemWrite(a, 2, v)`: the low byte first, each byte through R82 on its own (R88). -/
def memWrite16 (s : State) (a : Word) (v : Word) : State := memWrite (memWrite s a (loByte v)) (a + 1) (hiByte v)

/-! ### Bits of a device register (R18) -/

/-- `IF.set(k)`. -/
def ifSet (s : State) (k : Nat) : State := directWrite s s.cfg.io.ifReg (directRead s s.cfg.io.ifReg ||| (1#8 <<< k))

/-- `IF.clear(k)`. -/
def ifClear (s : State) (k : Nat) : State := directWrite s s.cfg.io.ifReg (directRead s s.cfg.io.ifReg &&& ~~~(1#8 <<< k))

/-! ### The stack -/

/-- `Push(v)` (R200). -/
def push16 (s : State) (v : Word) : State := memWrite16 (s.setSp (s.cpu.sp - 2)) (s.cpu.sp - 2) v

/-- The word `Pop()` answers (R201). -/
def popValue (s : State) : Word := memRead16 s s.cpu.sp

/-- The state `Pop()` leaves (R201). -/
def popState (s : State) : State := s.setSp (s.cpu.sp + 2)

/-! ### Interrupts -/

/-- The vector of interrupt source k: `0x40 + 8 * k` (R96, R401). -/
def interruptVector (k : Nat) : Word := 0x0040#16 + BitVec.ofNat 16 (8 * k)

/-- Taking interrupt k (R403): PC is saved on the stack, the pc goes to the vector, IME is cleared when
`DISPATCH_CLEARS_IME`; no other register is saved (R406). -/
def takeInterrupt (s : State) (k : Nat) : State :=
  let t := (push16 s s.cpu.pc).setPc (interruptVector k)
  if s.cfg.dispatchClearsIme then t.setIme false else t

/-- Returning from an interrupt (R329): `PC <- Pop(); IME <- true`. -/
def returnFromInterrupt (s : State) : State := ((popState s).setPc (popValue s)).setIme true

end Sys2Proof.Machine
end

