-- ==== Sys2Proof/Machine/Devices.lean ====
section
/-!
DEFINITION. The joypad sample (60_exceptions.md R460 to R462) and the trace sink (40_cpu_engine.md R178).
-/

namespace Sys2Proof.Machine

/-- A nibble of four held buttons, inverted: 1 is released (R460). -/
def invertedNibble (k3 k2 k1 k0 : Bool) : Byte :=
  0#4 ++ BitVec.ofBool (!k3) ++ BitVec.ofBool (!k2) ++ BitVec.ofBool (!k1) ++ BitVec.ofBool (!k0)

/-- JOYP with its low nibble synthesized from the buttons of the selected groups (R53, R460). -/
def joypByte (j : Byte) (p : Joypad) : Byte :=
  let dir := invertedNibble p.down p.up p.left p.right
  let act := invertedNibble p.start p.select p.b p.a
  let low := (if j.getLsbD 4 then 0#8 else dir) ||| (if j.getLsbD 5 then 0#8 else act)
  (j &&& 0xF0#8) ||| low

/-- `joypad_sample()` (R460). -/
def joypadSample (s : State) : State := directWrite s s.cfg.io.joyp (joypByte (directRead s s.cfg.io.joyp) s.joypad)

/-- The trace line of a state (R178). -/
def traceLine (s : State) : TraceLine where
  a := s.r8 .a
  f := s.regF
  b := s.r8 .b
  c := s.r8 .c
  d := s.r8 .d
  e := s.r8 .e
  h := s.r8 .h
  l := s.r8 .l
  sp := s.cpu.sp
  pc := s.cpu.pc
  byte0 := directRead s s.cpu.pc
  byte1 := directRead s (s.cpu.pc + 1)
  byte2 := directRead s (s.cpu.pc + 2)
  byte3 := directRead s (s.cpu.pc + 3)

/-- Append the trace line when tracing and not mid-pair (R170, R178). -/
def emitTrace (s : State) : State :=
  if s.cfg.traceEnabled && !s.cpu.prefixOp then s.setTraceOut (s.traceOut ++ [traceLine s]) else s

/-- A hexadecimal digit, upper case. -/
def hexDigit (n : Nat) : Char := ("0123456789ABCDEF".toList).getD n '0'

/-- `%02X`. -/
def hex2 (v : Byte) : List Char := [hexDigit (v.toNat / 16), hexDigit (v.toNat % 16)]

/-- `%04X`. -/
def hex4 (v : Word) : List Char := hex2 (hiByte v) ++ hex2 (loByte v)

/-- The characters of a trace line in R178's fixed format. -/
def traceText (t : TraceLine) : List Char :=
  "A: ".toList ++ hex2 t.a ++ " F: ".toList ++ hex2 t.f ++ " B: ".toList ++ hex2 t.b ++ " C: ".toList ++ hex2 t.c
  ++ " D: ".toList ++ hex2 t.d ++ " E: ".toList ++ hex2 t.e ++ " H: ".toList ++ hex2 t.h ++ " L: ".toList ++ hex2 t.l
  ++ " SP: ".toList ++ hex4 t.sp ++ " PC: 00:".toList ++ hex4 t.pc
  ++ " (".toList ++ hex2 t.byte0 ++ " ".toList ++ hex2 t.byte1 ++ " ".toList ++ hex2 t.byte2 ++ " ".toList ++ hex2 t.byte3
  ++ ")".toList

/-- The reason text of `Stuck` (R346). -/
def faultText : Fault → List Char
  | .undefinedOpcode op pc0 => "undefined opcode ".toList ++ hex2 op ++ " at ".toList ++ hex4 pc0

end Sys2Proof.Machine
end

