-- ==== Sys2Proof/Machine/Alu16.lean ====
section
/-!
DEFINITION. 16-bit arithmetic instructions (43_alu16.md R280 to R285). None touches memory or PC.
-/

namespace Sys2Proof.Machine

/-- `r16[rr] <- r16[rr] + d`, no flag (R281, R282). -/
def addPair (r : R16) (d : Word) (s : State) : Result := .next (s.setR16 r (s.r16 r + d))

/-- ADD HL,rr (R283): Z unchanged. -/
def addHlPair (r : R16) (s : State) : Result :=
  let x := addHl16 s.cpu.hl (s.r16 r) s.zf
  .next ((s.setHl x.1).setFlags x.2)

/-- INC BC (R281). -/
def execIncBc (s : State) : Result := addPair .bc 1 s
/-- INC DE (R281). -/
def execIncDe (s : State) : Result := addPair .de 1 s
/-- INC HL (R281). -/
def execIncHl (s : State) : Result := addPair .hl 1 s
/-- INC SP (R281). -/
def execIncSp (s : State) : Result := addPair .sp 1 s
/-- DEC BC (R282). -/
def execDecBc (s : State) : Result := addPair .bc (-1) s
/-- DEC DE (R282). -/
def execDecDe (s : State) : Result := addPair .de (-1) s
/-- DEC HL (R282). -/
def execDecHl (s : State) : Result := addPair .hl (-1) s
/-- DEC SP (R282). -/
def execDecSp (s : State) : Result := addPair .sp (-1) s
/-- ADD HL,BC (R283). -/
def execAddHlBc (s : State) : Result := addHlPair .bc s
/-- ADD HL,DE (R283). -/
def execAddHlDe (s : State) : Result := addHlPair .de s
/-- ADD HL,HL (R283). -/
def execAddHlHl (s : State) : Result := addHlPair .hl s
/-- ADD HL,SP (R283). -/
def execAddHlSp (s : State) : Result := addHlPair .sp s
/-- ADD SP,e8 (R284). -/
def execAddSpE8 (e8 : Byte) (s : State) : Result := 
  let x := spAdd s.cpu.sp e8
  .next ((s.setSp x.1).setFlags x.2)
/-- LD HL,SP+e8 (R285). -/
def execLdHlSpE8 (e8 : Byte) (s : State) : Result := 
  let x := spAdd s.cpu.sp e8
  .next ((s.setHl x.1).setFlags x.2)

end Sys2Proof.Machine
end

