-- ==== Sys2Proof/Machine/Alu8.lean ====
section
/-!
DEFINITION. 8-bit arithmetic and logic instructions (42_alu8.md R240 to R275).
-/

namespace Sys2Proof.Machine

/-- Run an ALU operation on A and `b` with Cf as before the instruction; CP writes the flags only (R243 to R266). -/
def aluOn (op : AluOp) (b : Byte) (s : State) : Result :=
  let r := alu8 op s.regA b s.cf
  match op with
  | .cp => .next (s.setFlags r.2)
  | _ => .next ((s.setR8 .a r.1).setFlags r.2)

/-- INC r (R267). -/
def incReg (r : R8) (s : State) : Result :=
  let x := inc8 (s.r8 r) s.cf
  .next ((s.setR8 r x.1).setFlags x.2)

/-- DEC r (R269). -/
def decReg (r : R8) (s : State) : Result :=
  let x := dec8 (s.r8 r) s.cf
  .next ((s.setR8 r x.1).setFlags x.2)

/-! ### ADD, ADC, SUB, SBC, AND, XOR, OR, CP -/

/-- ADD A,B (R243). -/
def execAddAB (s : State) : Result := aluOn .add (s.r8 .b) s
/-- ADD A,C (R243). -/
def execAddAC (s : State) : Result := aluOn .add (s.r8 .c) s
/-- ADD A,D (R243). -/
def execAddAD (s : State) : Result := aluOn .add (s.r8 .d) s
/-- ADD A,E (R243). -/
def execAddAE (s : State) : Result := aluOn .add (s.r8 .e) s
/-- ADD A,H (R243). -/
def execAddAH (s : State) : Result := aluOn .add (s.r8 .h) s
/-- ADD A,L (R243). -/
def execAddAL (s : State) : Result := aluOn .add (s.r8 .l) s
/-- ADD A,A (R243). -/
def execAddAA (s : State) : Result := aluOn .add (s.r8 .a) s
/-- ADD A,(HL) (R244). -/
def execAddAAtHl (s : State) : Result := aluOn .add (memRead s s.cpu.hl) s
/-- ADD A,n8 (R245). -/
def execAddAN8 (n8 : Byte) (s : State) : Result := aluOn .add n8 s
/-- ADC A,B (R246). -/
def execAdcAB (s : State) : Result := aluOn .adc (s.r8 .b) s
/-- ADC A,C (R246). -/
def execAdcAC (s : State) : Result := aluOn .adc (s.r8 .c) s
/-- ADC A,D (R246). -/
def execAdcAD (s : State) : Result := aluOn .adc (s.r8 .d) s
/-- ADC A,E (R246). -/
def execAdcAE (s : State) : Result := aluOn .adc (s.r8 .e) s
/-- ADC A,H (R246). -/
def execAdcAH (s : State) : Result := aluOn .adc (s.r8 .h) s
/-- ADC A,L (R246). -/
def execAdcAL (s : State) : Result := aluOn .adc (s.r8 .l) s
/-- ADC A,A (R246). -/
def execAdcAA (s : State) : Result := aluOn .adc (s.r8 .a) s
/-- ADC A,(HL) (R247). -/
def execAdcAAtHl (s : State) : Result := aluOn .adc (memRead s s.cpu.hl) s
/-- ADC A,n8 (R248). -/
def execAdcAN8 (n8 : Byte) (s : State) : Result := aluOn .adc n8 s
/-- SUB A,B (R249). -/
def execSubAB (s : State) : Result := aluOn .sub (s.r8 .b) s
/-- SUB A,C (R249). -/
def execSubAC (s : State) : Result := aluOn .sub (s.r8 .c) s
/-- SUB A,D (R249). -/
def execSubAD (s : State) : Result := aluOn .sub (s.r8 .d) s
/-- SUB A,E (R249). -/
def execSubAE (s : State) : Result := aluOn .sub (s.r8 .e) s
/-- SUB A,H (R249). -/
def execSubAH (s : State) : Result := aluOn .sub (s.r8 .h) s
/-- SUB A,L (R249). -/
def execSubAL (s : State) : Result := aluOn .sub (s.r8 .l) s
/-- SUB A,A (R249). -/
def execSubAA (s : State) : Result := aluOn .sub (s.r8 .a) s
/-- SUB A,(HL) (R250). -/
def execSubAAtHl (s : State) : Result := aluOn .sub (memRead s s.cpu.hl) s
/-- SUB A,n8 (R251). -/
def execSubAN8 (n8 : Byte) (s : State) : Result := aluOn .sub n8 s
/-- SBC A,B (R252). -/
def execSbcAB (s : State) : Result := aluOn .sbc (s.r8 .b) s
/-- SBC A,C (R252). -/
def execSbcAC (s : State) : Result := aluOn .sbc (s.r8 .c) s
/-- SBC A,D (R252). -/
def execSbcAD (s : State) : Result := aluOn .sbc (s.r8 .d) s
/-- SBC A,E (R252). -/
def execSbcAE (s : State) : Result := aluOn .sbc (s.r8 .e) s
/-- SBC A,H (R252). -/
def execSbcAH (s : State) : Result := aluOn .sbc (s.r8 .h) s
/-- SBC A,L (R252). -/
def execSbcAL (s : State) : Result := aluOn .sbc (s.r8 .l) s
/-- SBC A,A (R252). -/
def execSbcAA (s : State) : Result := aluOn .sbc (s.r8 .a) s
/-- SBC A,(HL) (R253). -/
def execSbcAAtHl (s : State) : Result := aluOn .sbc (memRead s s.cpu.hl) s
/-- SBC A,n8 (R254). -/
def execSbcAN8 (n8 : Byte) (s : State) : Result := aluOn .sbc n8 s
/-- AND A,B (R255). -/
def execAndAB (s : State) : Result := aluOn .and (s.r8 .b) s
/-- AND A,C (R255). -/
def execAndAC (s : State) : Result := aluOn .and (s.r8 .c) s
/-- AND A,D (R255). -/
def execAndAD (s : State) : Result := aluOn .and (s.r8 .d) s
/-- AND A,E (R255). -/
def execAndAE (s : State) : Result := aluOn .and (s.r8 .e) s
/-- AND A,H (R255). -/
def execAndAH (s : State) : Result := aluOn .and (s.r8 .h) s
/-- AND A,L (R255). -/
def execAndAL (s : State) : Result := aluOn .and (s.r8 .l) s
/-- AND A,A (R255). -/
def execAndAA (s : State) : Result := aluOn .and (s.r8 .a) s
/-- AND A,(HL) (R256). -/
def execAndAAtHl (s : State) : Result := aluOn .and (memRead s s.cpu.hl) s
/-- AND A,n8 (R257). -/
def execAndAN8 (n8 : Byte) (s : State) : Result := aluOn .and n8 s
/-- XOR A,B (R258). -/
def execXorAB (s : State) : Result := aluOn .xor (s.r8 .b) s
/-- XOR A,C (R258). -/
def execXorAC (s : State) : Result := aluOn .xor (s.r8 .c) s
/-- XOR A,D (R258). -/
def execXorAD (s : State) : Result := aluOn .xor (s.r8 .d) s
/-- XOR A,E (R258). -/
def execXorAE (s : State) : Result := aluOn .xor (s.r8 .e) s
/-- XOR A,H (R258). -/
def execXorAH (s : State) : Result := aluOn .xor (s.r8 .h) s
/-- XOR A,L (R258). -/
def execXorAL (s : State) : Result := aluOn .xor (s.r8 .l) s
/-- XOR A,A (R258). -/
def execXorAA (s : State) : Result := aluOn .xor (s.r8 .a) s
/-- XOR A,(HL) (R259). -/
def execXorAAtHl (s : State) : Result := aluOn .xor (memRead s s.cpu.hl) s
/-- XOR A,n8 (R260). -/
def execXorAN8 (n8 : Byte) (s : State) : Result := aluOn .xor n8 s
/-- OR A,B (R261). -/
def execOrAB (s : State) : Result := aluOn .or (s.r8 .b) s
/-- OR A,C (R261). -/
def execOrAC (s : State) : Result := aluOn .or (s.r8 .c) s
/-- OR A,D (R261). -/
def execOrAD (s : State) : Result := aluOn .or (s.r8 .d) s
/-- OR A,E (R261). -/
def execOrAE (s : State) : Result := aluOn .or (s.r8 .e) s
/-- OR A,H (R261). -/
def execOrAH (s : State) : Result := aluOn .or (s.r8 .h) s
/-- OR A,L (R261). -/
def execOrAL (s : State) : Result := aluOn .or (s.r8 .l) s
/-- OR A,A (R261). -/
def execOrAA (s : State) : Result := aluOn .or (s.r8 .a) s
/-- OR A,(HL) (R262). -/
def execOrAAtHl (s : State) : Result := aluOn .or (memRead s s.cpu.hl) s
/-- OR A,n8 (R263). -/
def execOrAN8 (n8 : Byte) (s : State) : Result := aluOn .or n8 s
/-- CP A,B (R264). -/
def execCpAB (s : State) : Result := aluOn .cp (s.r8 .b) s
/-- CP A,C (R264). -/
def execCpAC (s : State) : Result := aluOn .cp (s.r8 .c) s
/-- CP A,D (R264). -/
def execCpAD (s : State) : Result := aluOn .cp (s.r8 .d) s
/-- CP A,E (R264). -/
def execCpAE (s : State) : Result := aluOn .cp (s.r8 .e) s
/-- CP A,H (R264). -/
def execCpAH (s : State) : Result := aluOn .cp (s.r8 .h) s
/-- CP A,L (R264). -/
def execCpAL (s : State) : Result := aluOn .cp (s.r8 .l) s
/-- CP A,A (R264). -/
def execCpAA (s : State) : Result := aluOn .cp (s.r8 .a) s
/-- CP A,(HL) (R265). -/
def execCpAAtHl (s : State) : Result := aluOn .cp (memRead s s.cpu.hl) s
/-- CP A,n8 (R266). -/
def execCpAN8 (n8 : Byte) (s : State) : Result := aluOn .cp n8 s

/-! ### INC, DEC (R267 to R270) -/

/-- INC B (R267). -/
def execIncB (s : State) : Result := incReg .b s
/-- INC C (R267). -/
def execIncC (s : State) : Result := incReg .c s
/-- INC D (R267). -/
def execIncD (s : State) : Result := incReg .d s
/-- INC E (R267). -/
def execIncE (s : State) : Result := incReg .e s
/-- INC H (R267). -/
def execIncH (s : State) : Result := incReg .h s
/-- INC L (R267). -/
def execIncL (s : State) : Result := incReg .l s
/-- INC A (R267). -/
def execIncA (s : State) : Result := incReg .a s
/-- DEC B (R269). -/
def execDecB (s : State) : Result := decReg .b s
/-- DEC C (R269). -/
def execDecC (s : State) : Result := decReg .c s
/-- DEC D (R269). -/
def execDecD (s : State) : Result := decReg .d s
/-- DEC E (R269). -/
def execDecE (s : State) : Result := decReg .e s
/-- DEC H (R269). -/
def execDecH (s : State) : Result := decReg .h s
/-- DEC L (R269). -/
def execDecL (s : State) : Result := decReg .l s
/-- DEC A (R269). -/
def execDecA (s : State) : Result := decReg .a s
/-- INC (HL) (R268). -/
def execIncAtHl (s : State) : Result := 
  let x := inc8 (memRead s s.cpu.hl) s.cf
  .next ((memWrite s s.cpu.hl x.1).setFlags x.2)
/-- DEC (HL) (R270). -/
def execDecAtHl (s : State) : Result := 
  let x := dec8 (memRead s s.cpu.hl) s.cf
  .next ((memWrite s s.cpu.hl x.1).setFlags x.2)

/-! ### Accumulator and flag operations (R271 to R274) -/

/-- DAA (R271). -/
def execDaa (s : State) : Result := 
  let x := daa8 s.regA s.flags
  .next ((s.setR8 .a x.1).setFlags x.2)
/-- CPL (R272). -/
def execCpl (s : State) : Result := 
  .next ((s.setR8 .a (s.regA ^^^ 0xFF#8)).setFlags { s.flags with n := true, h := true })
/-- SCF (R273). -/
def execScf (s : State) : Result := .next (s.setFlags { s.flags with n := false, h := false, c := true })
/-- CCF (R274). -/
def execCcf (s : State) : Result := .next (s.setFlags { s.flags with n := false, h := false, c := !s.cf })

end Sys2Proof.Machine
end

