-- ==== Sys2Proof/Machine/Control.lean ====
section
/-!
DEFINITION. Control-transfer instructions (45_control.md R320 to R332). PC is already advanced (40_cpu_engine.md R164). No flag is written.
-/

namespace Sys2Proof.Machine

/-- `PC <- v` (R320, R322). -/
def jumpTo (v : Word) (s : State) : Result := .next (s.setPc v)

/-- `PC <- PC + sext_16(n8)` (R323). -/
def jumpRel (e8 : Byte) (s : State) : Result := .next (s.setPc (s.cpu.pc + sext16 e8))

/-- `Push(PC); PC <- v` (R325, R330). -/
def callTo (v : Word) (s : State) : Result := .next ((push16 s s.cpu.pc).setPc v)

/-- `PC <- Pop()` (R327). -/
def returnNow (s : State) : Result := .next ((popState s).setPc (popValue s))

/-- `if cond(cc): effect` (R129, R321, R324, R326, R328). -/
def onCond (cc : Cond) (effect : State → Result) (s : State) : Result := if s.cond cc then effect s else .next s

/-- The target `zext_16(ttt * 8)` (R131, R330). -/
def rstTarget (k : Bit3) : Word := BitVec.ofNat 16 (8 * bitNumber k)

/-- JP n16 (R320). -/
def execJpN16 (n16 : Word) (s : State) : Result := jumpTo n16 s
/-- JP NZ,n16 (R321). -/
def execJpNzN16 (n16 : Word) (s : State) : Result := onCond .nz (jumpTo n16) s
/-- JP Z,n16 (R321). -/
def execJpZN16 (n16 : Word) (s : State) : Result := onCond .z (jumpTo n16) s
/-- JP NC,n16 (R321). -/
def execJpNcN16 (n16 : Word) (s : State) : Result := onCond .nc (jumpTo n16) s
/-- JP C,n16 (R321). -/
def execJpCN16 (n16 : Word) (s : State) : Result := onCond .c (jumpTo n16) s
/-- JP HL (R322). -/
def execJpHl (s : State) : Result := jumpTo s.cpu.hl s
/-- JR e8 (R323). -/
def execJrE8 (e8 : Byte) (s : State) : Result := jumpRel e8 s
/-- JR NZ,e8 (R324). -/
def execJrNzE8 (e8 : Byte) (s : State) : Result := onCond .nz (jumpRel e8) s
/-- JR Z,e8 (R324). -/
def execJrZE8 (e8 : Byte) (s : State) : Result := onCond .z (jumpRel e8) s
/-- JR NC,e8 (R324). -/
def execJrNcE8 (e8 : Byte) (s : State) : Result := onCond .nc (jumpRel e8) s
/-- JR C,e8 (R324). -/
def execJrCE8 (e8 : Byte) (s : State) : Result := onCond .c (jumpRel e8) s
/-- CALL n16 (R325). -/
def execCallN16 (n16 : Word) (s : State) : Result := callTo n16 s
/-- CALL NZ,n16 (R326). -/
def execCallNzN16 (n16 : Word) (s : State) : Result := onCond .nz (callTo n16) s
/-- CALL Z,n16 (R326). -/
def execCallZN16 (n16 : Word) (s : State) : Result := onCond .z (callTo n16) s
/-- CALL NC,n16 (R326). -/
def execCallNcN16 (n16 : Word) (s : State) : Result := onCond .nc (callTo n16) s
/-- CALL C,n16 (R326). -/
def execCallCN16 (n16 : Word) (s : State) : Result := onCond .c (callTo n16) s
/-- RET (R327). -/
def execRet (s : State) : Result := returnNow s
/-- RET NZ (R328). -/
def execRetNz (s : State) : Result := onCond .nz returnNow s
/-- RET Z (R328). -/
def execRetZ (s : State) : Result := onCond .z returnNow s
/-- RET NC (R328). -/
def execRetNc (s : State) : Result := onCond .nc returnNow s
/-- RET C (R328). -/
def execRetC (s : State) : Result := onCond .c returnNow s
/-- RETI (R329). -/
def execReti (s : State) : Result := .next (returnFromInterrupt s)
/-- RST 0x00 (R330). -/
def execRst00 (s : State) : Result := callTo (rstTarget .b0) s
/-- RST 0x08 (R330). -/
def execRst08 (s : State) : Result := callTo (rstTarget .b1) s
/-- RST 0x10 (R330). -/
def execRst10 (s : State) : Result := callTo (rstTarget .b2) s
/-- RST 0x18 (R330). -/
def execRst18 (s : State) : Result := callTo (rstTarget .b3) s
/-- RST 0x20 (R330). -/
def execRst20 (s : State) : Result := callTo (rstTarget .b4) s
/-- RST 0x28 (R330). -/
def execRst28 (s : State) : Result := callTo (rstTarget .b5) s
/-- RST 0x30 (R330). -/
def execRst30 (s : State) : Result := callTo (rstTarget .b6) s
/-- RST 0x38 (R330). -/
def execRst38 (s : State) : Result := callTo (rstTarget .b7) s

end Sys2Proof.Machine
end

