-- ==== Sys2Proof/Machine/Loads.lean ====
section
/-!
DEFINITION. Load, store and stack instructions (41_loads.md R200 to R227).
No instruction here writes a flag except POP AF. Stores go through the mediated write (20_memory.md R82).
-/

namespace Sys2Proof.Machine

/-- `r8[ddd] <- r8[sss]` (R202). -/
def ldRegReg (dst src : R8) (s : State) : Result := .next (s.setR8 dst (s.r8 src))

/-- `r8[ddd] <- n8` (R203). -/
def ldRegImm (dst : R8) (n8 : Byte) (s : State) : Result := .next (s.setR8 dst n8)

/-- `r8[ddd] <- MemRead(HL, 1)` (R204): HL as it was before the write. -/
def ldRegAtHl (dst : R8) (s : State) : Result := .next (s.setR8 dst (memRead s s.cpu.hl))

/-- `MemWrite(HL, 1, r8[sss])` (R205). -/
def ldAtHlReg (src : R8) (s : State) : Result := .next (memWrite s s.cpu.hl (s.r8 src))

/-- `A <- MemRead(a, 1)` (R207, R208, R211, R213, R215). -/
def ldAFrom (a : Word) (s : State) : Result := .next (s.setR8 .a (memRead s a))

/-- `MemWrite(a, 1, A)` (R209, R210, R212, R214, R216). -/
def ldAInto (a : Word) (s : State) : Result := .next (memWrite s a s.regA)

/-- `A <- MemRead(HL, 1); HL <- HL + d` (R217, R218). -/
def ldAFromHlStep (d : Word) (s : State) : Result := .next ((s.setR8 .a (memRead s s.cpu.hl)).setHl (s.cpu.hl + d))

/-- `MemWrite(HL, 1, A); HL <- HL + d` (R219, R220). -/
def ldAIntoHlStep (d : Word) (s : State) : Result := .next ((memWrite s s.cpu.hl s.regA).setHl (s.cpu.hl + d))

/-- `r16[rr] <- n16` (R221). -/
def ldPairImm (dst : R16) (n16 : Word) (s : State) : Result := .next (s.setR16 dst n16)

/-- `r16stk[rr] <- Pop()`; for AF, F's low nibble stays 0 (R224, R225). -/
def popPair (dst : R16Stk) (s : State) : Result := .next ((popState s).setR16Stk dst (popValue s))

/-- `Push(r16stk[rr])` (R226). -/
def pushPair (src : R16Stk) (s : State) : Result := .next (push16 s (s.r16Stk src))

/-! ### LD r,r' (R202) -/

/-- LD B,B (R202). -/
def execLdBB (s : State) : Result := ldRegReg .b .b s
/-- LD B,C (R202). -/
def execLdBC (s : State) : Result := ldRegReg .b .c s
/-- LD B,D (R202). -/
def execLdBD (s : State) : Result := ldRegReg .b .d s
/-- LD B,E (R202). -/
def execLdBE (s : State) : Result := ldRegReg .b .e s
/-- LD B,H (R202). -/
def execLdBH (s : State) : Result := ldRegReg .b .h s
/-- LD B,L (R202). -/
def execLdBL (s : State) : Result := ldRegReg .b .l s
/-- LD B,A (R202). -/
def execLdBA (s : State) : Result := ldRegReg .b .a s
/-- LD C,B (R202). -/
def execLdCB (s : State) : Result := ldRegReg .c .b s
/-- LD C,C (R202). -/
def execLdCC (s : State) : Result := ldRegReg .c .c s
/-- LD C,D (R202). -/
def execLdCD (s : State) : Result := ldRegReg .c .d s
/-- LD C,E (R202). -/
def execLdCE (s : State) : Result := ldRegReg .c .e s
/-- LD C,H (R202). -/
def execLdCH (s : State) : Result := ldRegReg .c .h s
/-- LD C,L (R202). -/
def execLdCL (s : State) : Result := ldRegReg .c .l s
/-- LD C,A (R202). -/
def execLdCA (s : State) : Result := ldRegReg .c .a s
/-- LD D,B (R202). -/
def execLdDB (s : State) : Result := ldRegReg .d .b s
/-- LD D,C (R202). -/
def execLdDC (s : State) : Result := ldRegReg .d .c s
/-- LD D,D (R202). -/
def execLdDD (s : State) : Result := ldRegReg .d .d s
/-- LD D,E (R202). -/
def execLdDE (s : State) : Result := ldRegReg .d .e s
/-- LD D,H (R202). -/
def execLdDH (s : State) : Result := ldRegReg .d .h s
/-- LD D,L (R202). -/
def execLdDL (s : State) : Result := ldRegReg .d .l s
/-- LD D,A (R202). -/
def execLdDA (s : State) : Result := ldRegReg .d .a s
/-- LD E,B (R202). -/
def execLdEB (s : State) : Result := ldRegReg .e .b s
/-- LD E,C (R202). -/
def execLdEC (s : State) : Result := ldRegReg .e .c s
/-- LD E,D (R202). -/
def execLdED (s : State) : Result := ldRegReg .e .d s
/-- LD E,E (R202). -/
def execLdEE (s : State) : Result := ldRegReg .e .e s
/-- LD E,H (R202). -/
def execLdEH (s : State) : Result := ldRegReg .e .h s
/-- LD E,L (R202). -/
def execLdEL (s : State) : Result := ldRegReg .e .l s
/-- LD E,A (R202). -/
def execLdEA (s : State) : Result := ldRegReg .e .a s
/-- LD H,B (R202). -/
def execLdHB (s : State) : Result := ldRegReg .h .b s
/-- LD H,C (R202). -/
def execLdHC (s : State) : Result := ldRegReg .h .c s
/-- LD H,D (R202). -/
def execLdHD (s : State) : Result := ldRegReg .h .d s
/-- LD H,E (R202). -/
def execLdHE (s : State) : Result := ldRegReg .h .e s
/-- LD H,H (R202). -/
def execLdHH (s : State) : Result := ldRegReg .h .h s
/-- LD H,L (R202). -/
def execLdHL (s : State) : Result := ldRegReg .h .l s
/-- LD H,A (R202). -/
def execLdHA (s : State) : Result := ldRegReg .h .a s
/-- LD L,B (R202). -/
def execLdLB (s : State) : Result := ldRegReg .l .b s
/-- LD L,C (R202). -/
def execLdLC (s : State) : Result := ldRegReg .l .c s
/-- LD L,D (R202). -/
def execLdLD (s : State) : Result := ldRegReg .l .d s
/-- LD L,E (R202). -/
def execLdLE (s : State) : Result := ldRegReg .l .e s
/-- LD L,H (R202). -/
def execLdLH (s : State) : Result := ldRegReg .l .h s
/-- LD L,L (R202). -/
def execLdLL (s : State) : Result := ldRegReg .l .l s
/-- LD L,A (R202). -/
def execLdLA (s : State) : Result := ldRegReg .l .a s
/-- LD A,B (R202). -/
def execLdAB (s : State) : Result := ldRegReg .a .b s
/-- LD A,C (R202). -/
def execLdAC (s : State) : Result := ldRegReg .a .c s
/-- LD A,D (R202). -/
def execLdAD (s : State) : Result := ldRegReg .a .d s
/-- LD A,E (R202). -/
def execLdAE (s : State) : Result := ldRegReg .a .e s
/-- LD A,H (R202). -/
def execLdAH (s : State) : Result := ldRegReg .a .h s
/-- LD A,L (R202). -/
def execLdAL (s : State) : Result := ldRegReg .a .l s
/-- LD A,A (R202). -/
def execLdAA (s : State) : Result := ldRegReg .a .a s

/-! ### LD r,n8 (R203), LD r,(HL) (R204), LD (HL),r (R205), LD (HL),n8 (R206) -/

/-- LD B,n8 (R203). -/
def execLdBN8 (n8 : Byte) (s : State) : Result := ldRegImm .b n8 s
/-- LD C,n8 (R203). -/
def execLdCN8 (n8 : Byte) (s : State) : Result := ldRegImm .c n8 s
/-- LD D,n8 (R203). -/
def execLdDN8 (n8 : Byte) (s : State) : Result := ldRegImm .d n8 s
/-- LD E,n8 (R203). -/
def execLdEN8 (n8 : Byte) (s : State) : Result := ldRegImm .e n8 s
/-- LD H,n8 (R203). -/
def execLdHN8 (n8 : Byte) (s : State) : Result := ldRegImm .h n8 s
/-- LD L,n8 (R203). -/
def execLdLN8 (n8 : Byte) (s : State) : Result := ldRegImm .l n8 s
/-- LD A,n8 (R203). -/
def execLdAN8 (n8 : Byte) (s : State) : Result := ldRegImm .a n8 s
/-- LD B,(HL) (R204). -/
def execLdBAtHl (s : State) : Result := ldRegAtHl .b s
/-- LD C,(HL) (R204). -/
def execLdCAtHl (s : State) : Result := ldRegAtHl .c s
/-- LD D,(HL) (R204). -/
def execLdDAtHl (s : State) : Result := ldRegAtHl .d s
/-- LD E,(HL) (R204). -/
def execLdEAtHl (s : State) : Result := ldRegAtHl .e s
/-- LD H,(HL) (R204). -/
def execLdHAtHl (s : State) : Result := ldRegAtHl .h s
/-- LD L,(HL) (R204). -/
def execLdLAtHl (s : State) : Result := ldRegAtHl .l s
/-- LD A,(HL) (R204). -/
def execLdAAtHl (s : State) : Result := ldRegAtHl .a s
/-- LD (HL),B (R205). -/
def execLdAtHlB (s : State) : Result := ldAtHlReg .b s
/-- LD (HL),C (R205). -/
def execLdAtHlC (s : State) : Result := ldAtHlReg .c s
/-- LD (HL),D (R205). -/
def execLdAtHlD (s : State) : Result := ldAtHlReg .d s
/-- LD (HL),E (R205). -/
def execLdAtHlE (s : State) : Result := ldAtHlReg .e s
/-- LD (HL),H (R205). -/
def execLdAtHlH (s : State) : Result := ldAtHlReg .h s
/-- LD (HL),L (R205). -/
def execLdAtHlL (s : State) : Result := ldAtHlReg .l s
/-- LD (HL),A (R205). -/
def execLdAtHlA (s : State) : Result := ldAtHlReg .a s
/-- LD (HL),n8 (R206). -/
def execLdAtHlN8 (n8 : Byte) (s : State) : Result := .next (memWrite s s.cpu.hl n8)

/-! ### Accumulator loads and stores (R207 to R220) -/

/-- LD A,(BC) (R207). -/
def execLdAAtBc (s : State) : Result := ldAFrom s.cpu.bc s
/-- LD A,(DE) (R208). -/
def execLdAAtDe (s : State) : Result := ldAFrom s.cpu.de s
/-- LD (BC),A (R209). -/
def execLdAtBcA (s : State) : Result := ldAInto s.cpu.bc s
/-- LD (DE),A (R210). -/
def execLdAtDeA (s : State) : Result := ldAInto s.cpu.de s
/-- LD A,(n16) (R211). -/
def execLdAAtN16 (n16 : Word) (s : State) : Result := ldAFrom n16 s
/-- LD (n16),A (R212). -/
def execLdAtN16A (n16 : Word) (s : State) : Result := ldAInto n16 s
/-- LDH A,(C) (R213). -/
def execLdhAAtC (s : State) : Result := ldAFrom (highPage (s.r8 .c)) s
/-- LDH (C),A (R214). -/
def execLdhAtCA (s : State) : Result := ldAInto (highPage (s.r8 .c)) s
/-- LDH A,(n8) (R215). -/
def execLdhAAtN8 (n8 : Byte) (s : State) : Result := ldAFrom (highPage n8) s
/-- LDH (n8),A (R216). -/
def execLdhAtN8A (n8 : Byte) (s : State) : Result := ldAInto (highPage n8) s
/-- LD A,(HL+) (R217). -/
def execLdAAtHlInc (s : State) : Result := ldAFromHlStep 1 s
/-- LD A,(HL-) (R218). -/
def execLdAAtHlDec (s : State) : Result := ldAFromHlStep (-1) s
/-- LD (HL+),A (R219). -/
def execLdAtHlIncA (s : State) : Result := ldAIntoHlStep 1 s
/-- LD (HL-),A (R220). -/
def execLdAtHlDecA (s : State) : Result := ldAIntoHlStep (-1) s

/-! ### 16-bit loads (R221 to R223) and the stack (R224 to R226) -/

/-- LD BC,n16 (R221). -/
def execLdBcN16 (n16 : Word) (s : State) : Result := ldPairImm .bc n16 s
/-- LD DE,n16 (R221). -/
def execLdDeN16 (n16 : Word) (s : State) : Result := ldPairImm .de n16 s
/-- LD HL,n16 (R221). -/
def execLdHlN16 (n16 : Word) (s : State) : Result := ldPairImm .hl n16 s
/-- LD SP,n16 (R221). -/
def execLdSpN16 (n16 : Word) (s : State) : Result := ldPairImm .sp n16 s
/-- LD (n16),SP (R222). -/
def execLdAtN16Sp (n16 : Word) (s : State) : Result := .next (memWrite16 s n16 s.cpu.sp)
/-- LD SP,HL (R223). -/
def execLdSpHl (s : State) : Result := .next (s.setSp s.cpu.hl)
/-- POP BC (R224). -/
def execPopBc (s : State) : Result := popPair .bc s
/-- POP DE (R224). -/
def execPopDe (s : State) : Result := popPair .de s
/-- POP HL (R224). -/
def execPopHl (s : State) : Result := popPair .hl s
/-- POP AF (R225). -/
def execPopAf (s : State) : Result := popPair .af s
/-- PUSH BC (R226). -/
def execPushBc (s : State) : Result := pushPair .bc s
/-- PUSH DE (R226). -/
def execPushDe (s : State) : Result := pushPair .de s
/-- PUSH HL (R226). -/
def execPushHl (s : State) : Result := pushPair .hl s
/-- PUSH AF (R226). -/
def execPushAf (s : State) : Result := pushPair .af s

end Sys2Proof.Machine
end

