-- ==== Sys2Proof/Machine/RotateShiftBit.lean ====
section
/-!
DEFINITION. Rotate, shift and bit instructions (44_rotate_shift_bit.md R290 to R317).
The prefixed ones are the second iteration of their pair (R168).
-/

namespace Sys2Proof.Machine

/-- RLCA, RRCA, RLA, RRA (R291 to R294): Z is written as 0. -/
def rotateA (k : ShiftKind) (s : State) : Result :=
  let x := shift8 k s.regA s.cf
  .next ((s.setR8 .a x.1).setFlags { z := false, n := false, h := false, c := x.2 })

/-- A prefixed rotate or shift of a register (R290). -/
def shiftReg (k : ShiftKind) (r : R8) (s : State) : Result :=
  let x := shiftFlags k (s.r8 r) s.cf
  .next ((s.setR8 r x.1).setFlags x.2)

/-- A prefixed rotate or shift of the byte at HL: one read, one mediated write, the flags from the computed result (R296). -/
def shiftAtHl (k : ShiftKind) (s : State) : Result :=
  let x := shiftFlags k (memRead s s.cpu.hl) s.cf
  .next ((memWrite s s.cpu.hl x.1).setFlags x.2)

/-- The flags BIT writes: Z from the bit, N 0, H 1, C unchanged (R311, R312). -/
def bitTest (b : Bit3) (v : Byte) (s : State) : Result :=
  .next (s.setFlags { z := !v.getLsbD (bitNumber b), n := false, h := true, c := s.cf })

/-- `v & ~(1 << b)` (R313). -/
def clearBit (b : Bit3) (v : Byte) : Byte := v &&& ~~~(1#8 <<< bitNumber b)

/-- `v | (1 << b)` (R315). -/
def setBit (b : Bit3) (v : Byte) : Byte := v ||| (1#8 <<< bitNumber b)

/-- RES b,r (R313). -/
def resReg (b : Bit3) (r : R8) (s : State) : Result := .next (s.setR8 r (clearBit b (s.r8 r)))

/-- RES b,(HL) (R314). -/
def resAtHl (b : Bit3) (s : State) : Result := .next (memWrite s s.cpu.hl (clearBit b (memRead s s.cpu.hl)))

/-- SET b,r (R315). -/
def setReg (b : Bit3) (r : R8) (s : State) : Result := .next (s.setR8 r (setBit b (s.r8 r)))

/-- SET b,(HL) (R316). -/
def setAtHl (b : Bit3) (s : State) : Result := .next (memWrite s s.cpu.hl (setBit b (memRead s s.cpu.hl)))

/-! ### Accumulator rotates -/

/-- RLCA (R291). -/
def execRlca (s : State) : Result := rotateA .rlc s
/-- RRCA (R292). -/
def execRrca (s : State) : Result := rotateA .rrc s
/-- RLA (R293). -/
def execRla (s : State) : Result := rotateA .rl s
/-- RRA (R294). -/
def execRra (s : State) : Result := rotateA .rr s

/-! ### Prefixed rotates, shifts and SWAP (R295 to R310) -/

/-- RLC B (R295). -/
def execRlcB (s : State) : Result := shiftReg .rlc .b s
/-- RLC C (R295). -/
def execRlcC (s : State) : Result := shiftReg .rlc .c s
/-- RLC D (R295). -/
def execRlcD (s : State) : Result := shiftReg .rlc .d s
/-- RLC E (R295). -/
def execRlcE (s : State) : Result := shiftReg .rlc .e s
/-- RLC H (R295). -/
def execRlcH (s : State) : Result := shiftReg .rlc .h s
/-- RLC L (R295). -/
def execRlcL (s : State) : Result := shiftReg .rlc .l s
/-- RLC A (R295). -/
def execRlcA (s : State) : Result := shiftReg .rlc .a s
/-- RLC (HL) (R296). -/
def execRlcAtHl (s : State) : Result := shiftAtHl .rlc s
/-- RRC B (R297). -/
def execRrcB (s : State) : Result := shiftReg .rrc .b s
/-- RRC C (R297). -/
def execRrcC (s : State) : Result := shiftReg .rrc .c s
/-- RRC D (R297). -/
def execRrcD (s : State) : Result := shiftReg .rrc .d s
/-- RRC E (R297). -/
def execRrcE (s : State) : Result := shiftReg .rrc .e s
/-- RRC H (R297). -/
def execRrcH (s : State) : Result := shiftReg .rrc .h s
/-- RRC L (R297). -/
def execRrcL (s : State) : Result := shiftReg .rrc .l s
/-- RRC A (R297). -/
def execRrcA (s : State) : Result := shiftReg .rrc .a s
/-- RRC (HL) (R298). -/
def execRrcAtHl (s : State) : Result := shiftAtHl .rrc s
/-- RL B (R299). -/
def execRlB (s : State) : Result := shiftReg .rl .b s
/-- RL C (R299). -/
def execRlC (s : State) : Result := shiftReg .rl .c s
/-- RL D (R299). -/
def execRlD (s : State) : Result := shiftReg .rl .d s
/-- RL E (R299). -/
def execRlE (s : State) : Result := shiftReg .rl .e s
/-- RL H (R299). -/
def execRlH (s : State) : Result := shiftReg .rl .h s
/-- RL L (R299). -/
def execRlL (s : State) : Result := shiftReg .rl .l s
/-- RL A (R299). -/
def execRlA (s : State) : Result := shiftReg .rl .a s
/-- RL (HL) (R300). -/
def execRlAtHl (s : State) : Result := shiftAtHl .rl s
/-- RR B (R301). -/
def execRrB (s : State) : Result := shiftReg .rr .b s
/-- RR C (R301). -/
def execRrC (s : State) : Result := shiftReg .rr .c s
/-- RR D (R301). -/
def execRrD (s : State) : Result := shiftReg .rr .d s
/-- RR E (R301). -/
def execRrE (s : State) : Result := shiftReg .rr .e s
/-- RR H (R301). -/
def execRrH (s : State) : Result := shiftReg .rr .h s
/-- RR L (R301). -/
def execRrL (s : State) : Result := shiftReg .rr .l s
/-- RR A (R301). -/
def execRrA (s : State) : Result := shiftReg .rr .a s
/-- RR (HL) (R302). -/
def execRrAtHl (s : State) : Result := shiftAtHl .rr s
/-- SLA B (R303). -/
def execSlaB (s : State) : Result := shiftReg .sla .b s
/-- SLA C (R303). -/
def execSlaC (s : State) : Result := shiftReg .sla .c s
/-- SLA D (R303). -/
def execSlaD (s : State) : Result := shiftReg .sla .d s
/-- SLA E (R303). -/
def execSlaE (s : State) : Result := shiftReg .sla .e s
/-- SLA H (R303). -/
def execSlaH (s : State) : Result := shiftReg .sla .h s
/-- SLA L (R303). -/
def execSlaL (s : State) : Result := shiftReg .sla .l s
/-- SLA A (R303). -/
def execSlaA (s : State) : Result := shiftReg .sla .a s
/-- SLA (HL) (R304). -/
def execSlaAtHl (s : State) : Result := shiftAtHl .sla s
/-- SRA B (R305). -/
def execSraB (s : State) : Result := shiftReg .sra .b s
/-- SRA C (R305). -/
def execSraC (s : State) : Result := shiftReg .sra .c s
/-- SRA D (R305). -/
def execSraD (s : State) : Result := shiftReg .sra .d s
/-- SRA E (R305). -/
def execSraE (s : State) : Result := shiftReg .sra .e s
/-- SRA H (R305). -/
def execSraH (s : State) : Result := shiftReg .sra .h s
/-- SRA L (R305). -/
def execSraL (s : State) : Result := shiftReg .sra .l s
/-- SRA A (R305). -/
def execSraA (s : State) : Result := shiftReg .sra .a s
/-- SRA (HL) (R306). -/
def execSraAtHl (s : State) : Result := shiftAtHl .sra s
/-- SWAP B (R307). -/
def execSwapB (s : State) : Result := shiftReg .swap .b s
/-- SWAP C (R307). -/
def execSwapC (s : State) : Result := shiftReg .swap .c s
/-- SWAP D (R307). -/
def execSwapD (s : State) : Result := shiftReg .swap .d s
/-- SWAP E (R307). -/
def execSwapE (s : State) : Result := shiftReg .swap .e s
/-- SWAP H (R307). -/
def execSwapH (s : State) : Result := shiftReg .swap .h s
/-- SWAP L (R307). -/
def execSwapL (s : State) : Result := shiftReg .swap .l s
/-- SWAP A (R307). -/
def execSwapA (s : State) : Result := shiftReg .swap .a s
/-- SWAP (HL) (R308). -/
def execSwapAtHl (s : State) : Result := shiftAtHl .swap s
/-- SRL B (R309). -/
def execSrlB (s : State) : Result := shiftReg .srl .b s
/-- SRL C (R309). -/
def execSrlC (s : State) : Result := shiftReg .srl .c s
/-- SRL D (R309). -/
def execSrlD (s : State) : Result := shiftReg .srl .d s
/-- SRL E (R309). -/
def execSrlE (s : State) : Result := shiftReg .srl .e s
/-- SRL H (R309). -/
def execSrlH (s : State) : Result := shiftReg .srl .h s
/-- SRL L (R309). -/
def execSrlL (s : State) : Result := shiftReg .srl .l s
/-- SRL A (R309). -/
def execSrlA (s : State) : Result := shiftReg .srl .a s
/-- SRL (HL) (R310). -/
def execSrlAtHl (s : State) : Result := shiftAtHl .srl s

/-! ### BIT (R311, R312) -/

/-- BIT 0,B (R311). -/
def execBit0B (s : State) : Result := bitTest .b0 (s.r8 .b) s
/-- BIT 0,C (R311). -/
def execBit0C (s : State) : Result := bitTest .b0 (s.r8 .c) s
/-- BIT 0,D (R311). -/
def execBit0D (s : State) : Result := bitTest .b0 (s.r8 .d) s
/-- BIT 0,E (R311). -/
def execBit0E (s : State) : Result := bitTest .b0 (s.r8 .e) s
/-- BIT 0,H (R311). -/
def execBit0H (s : State) : Result := bitTest .b0 (s.r8 .h) s
/-- BIT 0,L (R311). -/
def execBit0L (s : State) : Result := bitTest .b0 (s.r8 .l) s
/-- BIT 0,A (R311). -/
def execBit0A (s : State) : Result := bitTest .b0 (s.r8 .a) s
/-- BIT 0,(HL) (R312). -/
def execBit0AtHl (s : State) : Result := bitTest .b0 (memRead s s.cpu.hl) s
/-- BIT 1,B (R311). -/
def execBit1B (s : State) : Result := bitTest .b1 (s.r8 .b) s
/-- BIT 1,C (R311). -/
def execBit1C (s : State) : Result := bitTest .b1 (s.r8 .c) s
/-- BIT 1,D (R311). -/
def execBit1D (s : State) : Result := bitTest .b1 (s.r8 .d) s
/-- BIT 1,E (R311). -/
def execBit1E (s : State) : Result := bitTest .b1 (s.r8 .e) s
/-- BIT 1,H (R311). -/
def execBit1H (s : State) : Result := bitTest .b1 (s.r8 .h) s
/-- BIT 1,L (R311). -/
def execBit1L (s : State) : Result := bitTest .b1 (s.r8 .l) s
/-- BIT 1,A (R311). -/
def execBit1A (s : State) : Result := bitTest .b1 (s.r8 .a) s
/-- BIT 1,(HL) (R312). -/
def execBit1AtHl (s : State) : Result := bitTest .b1 (memRead s s.cpu.hl) s
/-- BIT 2,B (R311). -/
def execBit2B (s : State) : Result := bitTest .b2 (s.r8 .b) s
/-- BIT 2,C (R311). -/
def execBit2C (s : State) : Result := bitTest .b2 (s.r8 .c) s
/-- BIT 2,D (R311). -/
def execBit2D (s : State) : Result := bitTest .b2 (s.r8 .d) s
/-- BIT 2,E (R311). -/
def execBit2E (s : State) : Result := bitTest .b2 (s.r8 .e) s
/-- BIT 2,H (R311). -/
def execBit2H (s : State) : Result := bitTest .b2 (s.r8 .h) s
/-- BIT 2,L (R311). -/
def execBit2L (s : State) : Result := bitTest .b2 (s.r8 .l) s
/-- BIT 2,A (R311). -/
def execBit2A (s : State) : Result := bitTest .b2 (s.r8 .a) s
/-- BIT 2,(HL) (R312). -/
def execBit2AtHl (s : State) : Result := bitTest .b2 (memRead s s.cpu.hl) s
/-- BIT 3,B (R311). -/
def execBit3B (s : State) : Result := bitTest .b3 (s.r8 .b) s
/-- BIT 3,C (R311). -/
def execBit3C (s : State) : Result := bitTest .b3 (s.r8 .c) s
/-- BIT 3,D (R311). -/
def execBit3D (s : State) : Result := bitTest .b3 (s.r8 .d) s
/-- BIT 3,E (R311). -/
def execBit3E (s : State) : Result := bitTest .b3 (s.r8 .e) s
/-- BIT 3,H (R311). -/
def execBit3H (s : State) : Result := bitTest .b3 (s.r8 .h) s
/-- BIT 3,L (R311). -/
def execBit3L (s : State) : Result := bitTest .b3 (s.r8 .l) s
/-- BIT 3,A (R311). -/
def execBit3A (s : State) : Result := bitTest .b3 (s.r8 .a) s
/-- BIT 3,(HL) (R312). -/
def execBit3AtHl (s : State) : Result := bitTest .b3 (memRead s s.cpu.hl) s
/-- BIT 4,B (R311). -/
def execBit4B (s : State) : Result := bitTest .b4 (s.r8 .b) s
/-- BIT 4,C (R311). -/
def execBit4C (s : State) : Result := bitTest .b4 (s.r8 .c) s
/-- BIT 4,D (R311). -/
def execBit4D (s : State) : Result := bitTest .b4 (s.r8 .d) s
/-- BIT 4,E (R311). -/
def execBit4E (s : State) : Result := bitTest .b4 (s.r8 .e) s
/-- BIT 4,H (R311). -/
def execBit4H (s : State) : Result := bitTest .b4 (s.r8 .h) s
/-- BIT 4,L (R311). -/
def execBit4L (s : State) : Result := bitTest .b4 (s.r8 .l) s
/-- BIT 4,A (R311). -/
def execBit4A (s : State) : Result := bitTest .b4 (s.r8 .a) s
/-- BIT 4,(HL) (R312). -/
def execBit4AtHl (s : State) : Result := bitTest .b4 (memRead s s.cpu.hl) s
/-- BIT 5,B (R311). -/
def execBit5B (s : State) : Result := bitTest .b5 (s.r8 .b) s
/-- BIT 5,C (R311). -/
def execBit5C (s : State) : Result := bitTest .b5 (s.r8 .c) s
/-- BIT 5,D (R311). -/
def execBit5D (s : State) : Result := bitTest .b5 (s.r8 .d) s
/-- BIT 5,E (R311). -/
def execBit5E (s : State) : Result := bitTest .b5 (s.r8 .e) s
/-- BIT 5,H (R311). -/
def execBit5H (s : State) : Result := bitTest .b5 (s.r8 .h) s
/-- BIT 5,L (R311). -/
def execBit5L (s : State) : Result := bitTest .b5 (s.r8 .l) s
/-- BIT 5,A (R311). -/
def execBit5A (s : State) : Result := bitTest .b5 (s.r8 .a) s
/-- BIT 5,(HL) (R312). -/
def execBit5AtHl (s : State) : Result := bitTest .b5 (memRead s s.cpu.hl) s
/-- BIT 6,B (R311). -/
def execBit6B (s : State) : Result := bitTest .b6 (s.r8 .b) s
/-- BIT 6,C (R311). -/
def execBit6C (s : State) : Result := bitTest .b6 (s.r8 .c) s
/-- BIT 6,D (R311). -/
def execBit6D (s : State) : Result := bitTest .b6 (s.r8 .d) s
/-- BIT 6,E (R311). -/
def execBit6E (s : State) : Result := bitTest .b6 (s.r8 .e) s
/-- BIT 6,H (R311). -/
def execBit6H (s : State) : Result := bitTest .b6 (s.r8 .h) s
/-- BIT 6,L (R311). -/
def execBit6L (s : State) : Result := bitTest .b6 (s.r8 .l) s
/-- BIT 6,A (R311). -/
def execBit6A (s : State) : Result := bitTest .b6 (s.r8 .a) s
/-- BIT 6,(HL) (R312). -/
def execBit6AtHl (s : State) : Result := bitTest .b6 (memRead s s.cpu.hl) s
/-- BIT 7,B (R311). -/
def execBit7B (s : State) : Result := bitTest .b7 (s.r8 .b) s
/-- BIT 7,C (R311). -/
def execBit7C (s : State) : Result := bitTest .b7 (s.r8 .c) s
/-- BIT 7,D (R311). -/
def execBit7D (s : State) : Result := bitTest .b7 (s.r8 .d) s
/-- BIT 7,E (R311). -/
def execBit7E (s : State) : Result := bitTest .b7 (s.r8 .e) s
/-- BIT 7,H (R311). -/
def execBit7H (s : State) : Result := bitTest .b7 (s.r8 .h) s
/-- BIT 7,L (R311). -/
def execBit7L (s : State) : Result := bitTest .b7 (s.r8 .l) s
/-- BIT 7,A (R311). -/
def execBit7A (s : State) : Result := bitTest .b7 (s.r8 .a) s
/-- BIT 7,(HL) (R312). -/
def execBit7AtHl (s : State) : Result := bitTest .b7 (memRead s s.cpu.hl) s

/-! ### RES (R313, R314) -/

/-- RES 0,B (R313). -/
def execRes0B (s : State) : Result := resReg .b0 .b s
/-- RES 0,C (R313). -/
def execRes0C (s : State) : Result := resReg .b0 .c s
/-- RES 0,D (R313). -/
def execRes0D (s : State) : Result := resReg .b0 .d s
/-- RES 0,E (R313). -/
def execRes0E (s : State) : Result := resReg .b0 .e s
/-- RES 0,H (R313). -/
def execRes0H (s : State) : Result := resReg .b0 .h s
/-- RES 0,L (R313). -/
def execRes0L (s : State) : Result := resReg .b0 .l s
/-- RES 0,A (R313). -/
def execRes0A (s : State) : Result := resReg .b0 .a s
/-- RES 0,(HL) (R314). -/
def execRes0AtHl (s : State) : Result := resAtHl .b0 s
/-- RES 1,B (R313). -/
def execRes1B (s : State) : Result := resReg .b1 .b s
/-- RES 1,C (R313). -/
def execRes1C (s : State) : Result := resReg .b1 .c s
/-- RES 1,D (R313). -/
def execRes1D (s : State) : Result := resReg .b1 .d s
/-- RES 1,E (R313). -/
def execRes1E (s : State) : Result := resReg .b1 .e s
/-- RES 1,H (R313). -/
def execRes1H (s : State) : Result := resReg .b1 .h s
/-- RES 1,L (R313). -/
def execRes1L (s : State) : Result := resReg .b1 .l s
/-- RES 1,A (R313). -/
def execRes1A (s : State) : Result := resReg .b1 .a s
/-- RES 1,(HL) (R314). -/
def execRes1AtHl (s : State) : Result := resAtHl .b1 s
/-- RES 2,B (R313). -/
def execRes2B (s : State) : Result := resReg .b2 .b s
/-- RES 2,C (R313). -/
def execRes2C (s : State) : Result := resReg .b2 .c s
/-- RES 2,D (R313). -/
def execRes2D (s : State) : Result := resReg .b2 .d s
/-- RES 2,E (R313). -/
def execRes2E (s : State) : Result := resReg .b2 .e s
/-- RES 2,H (R313). -/
def execRes2H (s : State) : Result := resReg .b2 .h s
/-- RES 2,L (R313). -/
def execRes2L (s : State) : Result := resReg .b2 .l s
/-- RES 2,A (R313). -/
def execRes2A (s : State) : Result := resReg .b2 .a s
/-- RES 2,(HL) (R314). -/
def execRes2AtHl (s : State) : Result := resAtHl .b2 s
/-- RES 3,B (R313). -/
def execRes3B (s : State) : Result := resReg .b3 .b s
/-- RES 3,C (R313). -/
def execRes3C (s : State) : Result := resReg .b3 .c s
/-- RES 3,D (R313). -/
def execRes3D (s : State) : Result := resReg .b3 .d s
/-- RES 3,E (R313). -/
def execRes3E (s : State) : Result := resReg .b3 .e s
/-- RES 3,H (R313). -/
def execRes3H (s : State) : Result := resReg .b3 .h s
/-- RES 3,L (R313). -/
def execRes3L (s : State) : Result := resReg .b3 .l s
/-- RES 3,A (R313). -/
def execRes3A (s : State) : Result := resReg .b3 .a s
/-- RES 3,(HL) (R314). -/
def execRes3AtHl (s : State) : Result := resAtHl .b3 s
/-- RES 4,B (R313). -/
def execRes4B (s : State) : Result := resReg .b4 .b s
/-- RES 4,C (R313). -/
def execRes4C (s : State) : Result := resReg .b4 .c s
/-- RES 4,D (R313). -/
def execRes4D (s : State) : Result := resReg .b4 .d s
/-- RES 4,E (R313). -/
def execRes4E (s : State) : Result := resReg .b4 .e s
/-- RES 4,H (R313). -/
def execRes4H (s : State) : Result := resReg .b4 .h s
/-- RES 4,L (R313). -/
def execRes4L (s : State) : Result := resReg .b4 .l s
/-- RES 4,A (R313). -/
def execRes4A (s : State) : Result := resReg .b4 .a s
/-- RES 4,(HL) (R314). -/
def execRes4AtHl (s : State) : Result := resAtHl .b4 s
/-- RES 5,B (R313). -/
def execRes5B (s : State) : Result := resReg .b5 .b s
/-- RES 5,C (R313). -/
def execRes5C (s : State) : Result := resReg .b5 .c s
/-- RES 5,D (R313). -/
def execRes5D (s : State) : Result := resReg .b5 .d s
/-- RES 5,E (R313). -/
def execRes5E (s : State) : Result := resReg .b5 .e s
/-- RES 5,H (R313). -/
def execRes5H (s : State) : Result := resReg .b5 .h s
/-- RES 5,L (R313). -/
def execRes5L (s : State) : Result := resReg .b5 .l s
/-- RES 5,A (R313). -/
def execRes5A (s : State) : Result := resReg .b5 .a s
/-- RES 5,(HL) (R314). -/
def execRes5AtHl (s : State) : Result := resAtHl .b5 s
/-- RES 6,B (R313). -/
def execRes6B (s : State) : Result := resReg .b6 .b s
/-- RES 6,C (R313). -/
def execRes6C (s : State) : Result := resReg .b6 .c s
/-- RES 6,D (R313). -/
def execRes6D (s : State) : Result := resReg .b6 .d s
/-- RES 6,E (R313). -/
def execRes6E (s : State) : Result := resReg .b6 .e s
/-- RES 6,H (R313). -/
def execRes6H (s : State) : Result := resReg .b6 .h s
/-- RES 6,L (R313). -/
def execRes6L (s : State) : Result := resReg .b6 .l s
/-- RES 6,A (R313). -/
def execRes6A (s : State) : Result := resReg .b6 .a s
/-- RES 6,(HL) (R314). -/
def execRes6AtHl (s : State) : Result := resAtHl .b6 s
/-- RES 7,B (R313). -/
def execRes7B (s : State) : Result := resReg .b7 .b s
/-- RES 7,C (R313). -/
def execRes7C (s : State) : Result := resReg .b7 .c s
/-- RES 7,D (R313). -/
def execRes7D (s : State) : Result := resReg .b7 .d s
/-- RES 7,E (R313). -/
def execRes7E (s : State) : Result := resReg .b7 .e s
/-- RES 7,H (R313). -/
def execRes7H (s : State) : Result := resReg .b7 .h s
/-- RES 7,L (R313). -/
def execRes7L (s : State) : Result := resReg .b7 .l s
/-- RES 7,A (R313). -/
def execRes7A (s : State) : Result := resReg .b7 .a s
/-- RES 7,(HL) (R314). -/
def execRes7AtHl (s : State) : Result := resAtHl .b7 s

/-! ### SET (R315, R316) -/

/-- SET 0,B (R315). -/
def execSet0B (s : State) : Result := setReg .b0 .b s
/-- SET 0,C (R315). -/
def execSet0C (s : State) : Result := setReg .b0 .c s
/-- SET 0,D (R315). -/
def execSet0D (s : State) : Result := setReg .b0 .d s
/-- SET 0,E (R315). -/
def execSet0E (s : State) : Result := setReg .b0 .e s
/-- SET 0,H (R315). -/
def execSet0H (s : State) : Result := setReg .b0 .h s
/-- SET 0,L (R315). -/
def execSet0L (s : State) : Result := setReg .b0 .l s
/-- SET 0,A (R315). -/
def execSet0A (s : State) : Result := setReg .b0 .a s
/-- SET 0,(HL) (R316). -/
def execSet0AtHl (s : State) : Result := setAtHl .b0 s
/-- SET 1,B (R315). -/
def execSet1B (s : State) : Result := setReg .b1 .b s
/-- SET 1,C (R315). -/
def execSet1C (s : State) : Result := setReg .b1 .c s
/-- SET 1,D (R315). -/
def execSet1D (s : State) : Result := setReg .b1 .d s
/-- SET 1,E (R315). -/
def execSet1E (s : State) : Result := setReg .b1 .e s
/-- SET 1,H (R315). -/
def execSet1H (s : State) : Result := setReg .b1 .h s
/-- SET 1,L (R315). -/
def execSet1L (s : State) : Result := setReg .b1 .l s
/-- SET 1,A (R315). -/
def execSet1A (s : State) : Result := setReg .b1 .a s
/-- SET 1,(HL) (R316). -/
def execSet1AtHl (s : State) : Result := setAtHl .b1 s
/-- SET 2,B (R315). -/
def execSet2B (s : State) : Result := setReg .b2 .b s
/-- SET 2,C (R315). -/
def execSet2C (s : State) : Result := setReg .b2 .c s
/-- SET 2,D (R315). -/
def execSet2D (s : State) : Result := setReg .b2 .d s
/-- SET 2,E (R315). -/
def execSet2E (s : State) : Result := setReg .b2 .e s
/-- SET 2,H (R315). -/
def execSet2H (s : State) : Result := setReg .b2 .h s
/-- SET 2,L (R315). -/
def execSet2L (s : State) : Result := setReg .b2 .l s
/-- SET 2,A (R315). -/
def execSet2A (s : State) : Result := setReg .b2 .a s
/-- SET 2,(HL) (R316). -/
def execSet2AtHl (s : State) : Result := setAtHl .b2 s
/-- SET 3,B (R315). -/
def execSet3B (s : State) : Result := setReg .b3 .b s
/-- SET 3,C (R315). -/
def execSet3C (s : State) : Result := setReg .b3 .c s
/-- SET 3,D (R315). -/
def execSet3D (s : State) : Result := setReg .b3 .d s
/-- SET 3,E (R315). -/
def execSet3E (s : State) : Result := setReg .b3 .e s
/-- SET 3,H (R315). -/
def execSet3H (s : State) : Result := setReg .b3 .h s
/-- SET 3,L (R315). -/
def execSet3L (s : State) : Result := setReg .b3 .l s
/-- SET 3,A (R315). -/
def execSet3A (s : State) : Result := setReg .b3 .a s
/-- SET 3,(HL) (R316). -/
def execSet3AtHl (s : State) : Result := setAtHl .b3 s
/-- SET 4,B (R315). -/
def execSet4B (s : State) : Result := setReg .b4 .b s
/-- SET 4,C (R315). -/
def execSet4C (s : State) : Result := setReg .b4 .c s
/-- SET 4,D (R315). -/
def execSet4D (s : State) : Result := setReg .b4 .d s
/-- SET 4,E (R315). -/
def execSet4E (s : State) : Result := setReg .b4 .e s
/-- SET 4,H (R315). -/
def execSet4H (s : State) : Result := setReg .b4 .h s
/-- SET 4,L (R315). -/
def execSet4L (s : State) : Result := setReg .b4 .l s
/-- SET 4,A (R315). -/
def execSet4A (s : State) : Result := setReg .b4 .a s
/-- SET 4,(HL) (R316). -/
def execSet4AtHl (s : State) : Result := setAtHl .b4 s
/-- SET 5,B (R315). -/
def execSet5B (s : State) : Result := setReg .b5 .b s
/-- SET 5,C (R315). -/
def execSet5C (s : State) : Result := setReg .b5 .c s
/-- SET 5,D (R315). -/
def execSet5D (s : State) : Result := setReg .b5 .d s
/-- SET 5,E (R315). -/
def execSet5E (s : State) : Result := setReg .b5 .e s
/-- SET 5,H (R315). -/
def execSet5H (s : State) : Result := setReg .b5 .h s
/-- SET 5,L (R315). -/
def execSet5L (s : State) : Result := setReg .b5 .l s
/-- SET 5,A (R315). -/
def execSet5A (s : State) : Result := setReg .b5 .a s
/-- SET 5,(HL) (R316). -/
def execSet5AtHl (s : State) : Result := setAtHl .b5 s
/-- SET 6,B (R315). -/
def execSet6B (s : State) : Result := setReg .b6 .b s
/-- SET 6,C (R315). -/
def execSet6C (s : State) : Result := setReg .b6 .c s
/-- SET 6,D (R315). -/
def execSet6D (s : State) : Result := setReg .b6 .d s
/-- SET 6,E (R315). -/
def execSet6E (s : State) : Result := setReg .b6 .e s
/-- SET 6,H (R315). -/
def execSet6H (s : State) : Result := setReg .b6 .h s
/-- SET 6,L (R315). -/
def execSet6L (s : State) : Result := setReg .b6 .l s
/-- SET 6,A (R315). -/
def execSet6A (s : State) : Result := setReg .b6 .a s
/-- SET 6,(HL) (R316). -/
def execSet6AtHl (s : State) : Result := setAtHl .b6 s
/-- SET 7,B (R315). -/
def execSet7B (s : State) : Result := setReg .b7 .b s
/-- SET 7,C (R315). -/
def execSet7C (s : State) : Result := setReg .b7 .c s
/-- SET 7,D (R315). -/
def execSet7D (s : State) : Result := setReg .b7 .d s
/-- SET 7,E (R315). -/
def execSet7E (s : State) : Result := setReg .b7 .e s
/-- SET 7,H (R315). -/
def execSet7H (s : State) : Result := setReg .b7 .h s
/-- SET 7,L (R315). -/
def execSet7L (s : State) : Result := setReg .b7 .l s
/-- SET 7,A (R315). -/
def execSet7A (s : State) : Result := setReg .b7 .a s
/-- SET 7,(HL) (R316). -/
def execSet7AtHl (s : State) : Result := setAtHl .b7 s

end Sys2Proof.Machine
end

