-- ==== Sys2Proof/Machine/SystemOps.lean ====
section
/-!
DEFINITION. System, interrupt-control, escape and undefined entries (46_system.md R340 to R348). None writes a flag.
-/

namespace Sys2Proof.Machine

/-- The kind `Undefined`: `Stuck`, no next state; the reason names the byte fetched, which stands at `pc0`, and `pc0` (R346). -/
def stuckAtOpcode (s : State) : Result := .fault (.undefinedOpcode (directRead s s.pc0) s.pc0)

/-- HALT by policy: `nop` has no effect; `spin` fetches the HALT again while no enabled interrupt is pending (R341). -/
def haltBy (p : HaltPolicy) (s : State) : Result :=
  match p with
  | .nop => .next s
  | .spin =>
    if directRead s s.cfg.io.ieReg &&& directRead s s.cfg.io.ifReg &&& 0x1F#8 = 0#8 then .next (s.setPc s.pc0) else .next s

/-- NOP (R340). -/
def execNop (s : State) : Result := .next s
/-- HALT (R341). -/
def execHalt (s : State) : Result := haltBy s.cfg.haltPolicy s
/-- STOP (R342): the second byte is skipped and ignored. -/
def execStop (_n8 : Byte) (s : State) : Result := .next s
/-- DI (R343). -/
def execDi (s : State) : Result := .next (s.setIme false)
/-- EI (R344). -/
def execEi (s : State) : Result := .next (s.setIme true)
/-- PREFIX CB (R345). -/
def execPrefixCb (s : State) : Result := .next (s.setPrefixOp true)
/-- UNDEFINED, byte 0xD3 (R346). -/
def execUndefinedD3 (s : State) : Result := stuckAtOpcode s
/-- UNDEFINED, byte 0xDB (R346). -/
def execUndefinedDB (s : State) : Result := stuckAtOpcode s
/-- UNDEFINED, byte 0xDD (R346). -/
def execUndefinedDD (s : State) : Result := stuckAtOpcode s
/-- UNDEFINED, byte 0xE3 (R346). -/
def execUndefinedE3 (s : State) : Result := stuckAtOpcode s
/-- UNDEFINED, byte 0xE4 (R346). -/
def execUndefinedE4 (s : State) : Result := stuckAtOpcode s
/-- UNDEFINED, byte 0xEB (R346). -/
def execUndefinedEB (s : State) : Result := stuckAtOpcode s
/-- UNDEFINED, byte 0xEC (R346). -/
def execUndefinedEC (s : State) : Result := stuckAtOpcode s
/-- UNDEFINED, byte 0xED (R346). -/
def execUndefinedED (s : State) : Result := stuckAtOpcode s
/-- UNDEFINED, byte 0xF4 (R346). -/
def execUndefinedF4 (s : State) : Result := stuckAtOpcode s
/-- UNDEFINED, byte 0xFC (R346). -/
def execUndefinedFC (s : State) : Result := stuckAtOpcode s
/-- UNDEFINED, byte 0xFD (R346). -/
def execUndefinedFD (s : State) : Result := stuckAtOpcode s

end Sys2Proof.Machine
end

