-- ==== Sys2Proof/Machine/Table.lean ====
section
/-!
DEFINITION. The reference table's lengths, cycle counts and flag masks (30_encoding.md R122, R125, R132, R138), row by row of
spec/opcode_table.json; then the descriptors of the reference table (R120, R137) and the look-up in the parameter TABLE, which
`State.cfg` holds as its differences from the reference (log 9).
-/

namespace Sys2Proof.Machine

/-- A row of the reference table: a descriptor without its effect, with the cycle counts of both `PREFIX_CYCLE_SPLIT`s. -/
structure Descriptor where
  /-- Bytes the engine adds to PC when it fetches the entry. -/
  length : Nat
  /-- M-cycles when the effect leaves PC unchanged, under `PREFIX_CYCLE_SPLIT = split`. -/
  mcycles : Nat
  /-- M-cycles when the effect changes PC, under `split`. -/
  mcyclesTaken : Nat
  /-- The first count under `both_full` (R132). -/
  fullMcycles : Nat
  /-- The second count under `both_full`. -/
  fullTaken : Nat
  /-- The informational flag mask (R138). -/
  flags : FlagMask
deriving DecidableEq, Repr, Inhabited

/-- An unprefixed entry: `both_full` changes nothing (R132, R345). -/
def plainEntry (length mcycles taken : Nat) (flags : FlagMask) : Descriptor := 
  ⟨length, mcycles, taken, mcycles, taken, flags⟩

/-- A prefixed entry: length 1, PC never changes (R317). -/
def cbEntry (mcycles full : Nat) (flags : FlagMask) : Descriptor := ⟨1, mcycles, mcycles, full, full, flags⟩

/-- The mask `----`. -/
def maskKKKK : FlagMask := ⟨.kept, .kept, .kept, .kept⟩
/-- The mask `Z0H-`. -/
def maskZ0HK : FlagMask := ⟨.result, .zero, .result, .kept⟩
/-- The mask `Z1H-`. -/
def maskZ1HK : FlagMask := ⟨.result, .one, .result, .kept⟩
/-- The mask `000C`. -/
def mask000C : FlagMask := ⟨.zero, .zero, .zero, .result⟩
/-- The mask `-0HC`. -/
def maskK0HC : FlagMask := ⟨.kept, .zero, .result, .result⟩
/-- The mask `Z-0C`. -/
def maskZK0C : FlagMask := ⟨.result, .kept, .zero, .result⟩
/-- The mask `-11-`. -/
def maskK11K : FlagMask := ⟨.kept, .one, .one, .kept⟩
/-- The mask `-001`. -/
def maskK001 : FlagMask := ⟨.kept, .zero, .zero, .one⟩
/-- The mask `-00C`. -/
def maskK00C : FlagMask := ⟨.kept, .zero, .zero, .result⟩
/-- The mask `Z0HC`. -/
def maskZ0HC : FlagMask := ⟨.result, .zero, .result, .result⟩
/-- The mask `Z1HC`. -/
def maskZ1HC : FlagMask := ⟨.result, .one, .result, .result⟩
/-- The mask `Z010`. -/
def maskZ010 : FlagMask := ⟨.result, .zero, .one, .zero⟩
/-- The mask `Z000`. -/
def maskZ000 : FlagMask := ⟨.result, .zero, .zero, .zero⟩
/-- The mask `00HC`. -/
def mask00HC : FlagMask := ⟨.zero, .zero, .result, .result⟩
/-- The mask `ZNHC`. -/
def maskZNHC : FlagMask := ⟨.result, .result, .result, .result⟩
/-- The mask `Z00C`. -/
def maskZ00C : FlagMask := ⟨.result, .zero, .zero, .result⟩
/-- The mask `Z01-`. -/
def maskZ01K : FlagMask := ⟨.result, .zero, .one, .kept⟩

/-- An undefined entry: length 1, its cycle counts are null in the table for it is never charged (R346, log 15). -/
def undefinedEntry : Descriptor := plainEntry 1 0 0 maskKKKK

/-- The row of an instruction. -/
def descriptor : Instr → Descriptor
  | .nop => plainEntry 1 1 1 maskKKKK
  | .ldBcN16 _ => plainEntry 3 3 3 maskKKKK
  | .ldAtBcA => plainEntry 1 2 2 maskKKKK
  | .incBc => plainEntry 1 2 2 maskKKKK
  | .incB => plainEntry 1 1 1 maskZ0HK
  | .decB => plainEntry 1 1 1 maskZ1HK
  | .ldBN8 _ => plainEntry 2 2 2 maskKKKK
  | .rlca => plainEntry 1 1 1 mask000C
  | .ldAtN16Sp _ => plainEntry 3 5 5 maskKKKK
  | .addHlBc => plainEntry 1 2 2 maskK0HC
  | .ldAAtBc => plainEntry 1 2 2 maskKKKK
  | .decBc => plainEntry 1 2 2 maskKKKK
  | .incC => plainEntry 1 1 1 maskZ0HK
  | .decC => plainEntry 1 1 1 maskZ1HK
  | .ldCN8 _ => plainEntry 2 2 2 maskKKKK
  | .rrca => plainEntry 1 1 1 mask000C
  | .stop _ => plainEntry 2 1 1 maskKKKK
  | .ldDeN16 _ => plainEntry 3 3 3 maskKKKK
  | .ldAtDeA => plainEntry 1 2 2 maskKKKK
  | .incDe => plainEntry 1 2 2 maskKKKK
  | .incD => plainEntry 1 1 1 maskZ0HK
  | .decD => plainEntry 1 1 1 maskZ1HK
  | .ldDN8 _ => plainEntry 2 2 2 maskKKKK
  | .rla => plainEntry 1 1 1 mask000C
  | .jrE8 _ => plainEntry 2 3 3 maskKKKK
  | .addHlDe => plainEntry 1 2 2 maskK0HC
  | .ldAAtDe => plainEntry 1 2 2 maskKKKK
  | .decDe => plainEntry 1 2 2 maskKKKK
  | .incE => plainEntry 1 1 1 maskZ0HK
  | .decE => plainEntry 1 1 1 maskZ1HK
  | .ldEN8 _ => plainEntry 2 2 2 maskKKKK
  | .rra => plainEntry 1 1 1 mask000C
  | .jrNzE8 _ => plainEntry 2 2 3 maskKKKK
  | .ldHlN16 _ => plainEntry 3 3 3 maskKKKK
  | .ldAtHlIncA => plainEntry 1 2 2 maskKKKK
  | .incHl => plainEntry 1 2 2 maskKKKK
  | .incH => plainEntry 1 1 1 maskZ0HK
  | .decH => plainEntry 1 1 1 maskZ1HK
  | .ldHN8 _ => plainEntry 2 2 2 maskKKKK
  | .daa => plainEntry 1 1 1 maskZK0C
  | .jrZE8 _ => plainEntry 2 2 3 maskKKKK
  | .addHlHl => plainEntry 1 2 2 maskK0HC
  | .ldAAtHlInc => plainEntry 1 2 2 maskKKKK
  | .decHl => plainEntry 1 2 2 maskKKKK
  | .incL => plainEntry 1 1 1 maskZ0HK
  | .decL => plainEntry 1 1 1 maskZ1HK
  | .ldLN8 _ => plainEntry 2 2 2 maskKKKK
  | .cpl => plainEntry 1 1 1 maskK11K
  | .jrNcE8 _ => plainEntry 2 2 3 maskKKKK
  | .ldSpN16 _ => plainEntry 3 3 3 maskKKKK
  | .ldAtHlDecA => plainEntry 1 2 2 maskKKKK
  | .incSp => plainEntry 1 2 2 maskKKKK
  | .incAtHl => plainEntry 1 3 3 maskZ0HK
  | .decAtHl => plainEntry 1 3 3 maskZ1HK
  | .ldAtHlN8 _ => plainEntry 2 3 3 maskKKKK
  | .scf => plainEntry 1 1 1 maskK001
  | .jrCE8 _ => plainEntry 2 2 3 maskKKKK
  | .addHlSp => plainEntry 1 2 2 maskK0HC
  | .ldAAtHlDec => plainEntry 1 2 2 maskKKKK
  | .decSp => plainEntry 1 2 2 maskKKKK
  | .incA => plainEntry 1 1 1 maskZ0HK
  | .decA => plainEntry 1 1 1 maskZ1HK
  | .ldAN8 _ => plainEntry 2 2 2 maskKKKK
  | .ccf => plainEntry 1 1 1 maskK00C
  | .ldBB => plainEntry 1 1 1 maskKKKK
  | .ldBC => plainEntry 1 1 1 maskKKKK
  | .ldBD => plainEntry 1 1 1 maskKKKK
  | .ldBE => plainEntry 1 1 1 maskKKKK
  | .ldBH => plainEntry 1 1 1 maskKKKK
  | .ldBL => plainEntry 1 1 1 maskKKKK
  | .ldBAtHl => plainEntry 1 2 2 maskKKKK
  | .ldBA => plainEntry 1 1 1 maskKKKK
  | .ldCB => plainEntry 1 1 1 maskKKKK
  | .ldCC => plainEntry 1 1 1 maskKKKK
  | .ldCD => plainEntry 1 1 1 maskKKKK
  | .ldCE => plainEntry 1 1 1 maskKKKK
  | .ldCH => plainEntry 1 1 1 maskKKKK
  | .ldCL => plainEntry 1 1 1 maskKKKK
  | .ldCAtHl => plainEntry 1 2 2 maskKKKK
  | .ldCA => plainEntry 1 1 1 maskKKKK
  | .ldDB => plainEntry 1 1 1 maskKKKK
  | .ldDC => plainEntry 1 1 1 maskKKKK
  | .ldDD => plainEntry 1 1 1 maskKKKK
  | .ldDE => plainEntry 1 1 1 maskKKKK
  | .ldDH => plainEntry 1 1 1 maskKKKK
  | .ldDL => plainEntry 1 1 1 maskKKKK
  | .ldDAtHl => plainEntry 1 2 2 maskKKKK
  | .ldDA => plainEntry 1 1 1 maskKKKK
  | .ldEB => plainEntry 1 1 1 maskKKKK
  | .ldEC => plainEntry 1 1 1 maskKKKK
  | .ldED => plainEntry 1 1 1 maskKKKK
  | .ldEE => plainEntry 1 1 1 maskKKKK
  | .ldEH => plainEntry 1 1 1 maskKKKK
  | .ldEL => plainEntry 1 1 1 maskKKKK
  | .ldEAtHl => plainEntry 1 2 2 maskKKKK
  | .ldEA => plainEntry 1 1 1 maskKKKK
  | .ldHB => plainEntry 1 1 1 maskKKKK
  | .ldHC => plainEntry 1 1 1 maskKKKK
  | .ldHD => plainEntry 1 1 1 maskKKKK
  | .ldHE => plainEntry 1 1 1 maskKKKK
  | .ldHH => plainEntry 1 1 1 maskKKKK
  | .ldHL => plainEntry 1 1 1 maskKKKK
  | .ldHAtHl => plainEntry 1 2 2 maskKKKK
  | .ldHA => plainEntry 1 1 1 maskKKKK
  | .ldLB => plainEntry 1 1 1 maskKKKK
  | .ldLC => plainEntry 1 1 1 maskKKKK
  | .ldLD => plainEntry 1 1 1 maskKKKK
  | .ldLE => plainEntry 1 1 1 maskKKKK
  | .ldLH => plainEntry 1 1 1 maskKKKK
  | .ldLL => plainEntry 1 1 1 maskKKKK
  | .ldLAtHl => plainEntry 1 2 2 maskKKKK
  | .ldLA => plainEntry 1 1 1 maskKKKK
  | .ldAtHlB => plainEntry 1 2 2 maskKKKK
  | .ldAtHlC => plainEntry 1 2 2 maskKKKK
  | .ldAtHlD => plainEntry 1 2 2 maskKKKK
  | .ldAtHlE => plainEntry 1 2 2 maskKKKK
  | .ldAtHlH => plainEntry 1 2 2 maskKKKK
  | .ldAtHlL => plainEntry 1 2 2 maskKKKK
  | .halt => plainEntry 1 1 1 maskKKKK
  | .ldAtHlA => plainEntry 1 2 2 maskKKKK
  | .ldAB => plainEntry 1 1 1 maskKKKK
  | .ldAC => plainEntry 1 1 1 maskKKKK
  | .ldAD => plainEntry 1 1 1 maskKKKK
  | .ldAE => plainEntry 1 1 1 maskKKKK
  | .ldAH => plainEntry 1 1 1 maskKKKK
  | .ldAL => plainEntry 1 1 1 maskKKKK
  | .ldAAtHl => plainEntry 1 2 2 maskKKKK
  | .ldAA => plainEntry 1 1 1 maskKKKK
  | .addAB => plainEntry 1 1 1 maskZ0HC
  | .addAC => plainEntry 1 1 1 maskZ0HC
  | .addAD => plainEntry 1 1 1 maskZ0HC
  | .addAE => plainEntry 1 1 1 maskZ0HC
  | .addAH => plainEntry 1 1 1 maskZ0HC
  | .addAL => plainEntry 1 1 1 maskZ0HC
  | .addAAtHl => plainEntry 1 2 2 maskZ0HC
  | .addAA => plainEntry 1 1 1 maskZ0HC
  | .adcAB => plainEntry 1 1 1 maskZ0HC
  | .adcAC => plainEntry 1 1 1 maskZ0HC
  | .adcAD => plainEntry 1 1 1 maskZ0HC
  | .adcAE => plainEntry 1 1 1 maskZ0HC
  | .adcAH => plainEntry 1 1 1 maskZ0HC
  | .adcAL => plainEntry 1 1 1 maskZ0HC
  | .adcAAtHl => plainEntry 1 2 2 maskZ0HC
  | .adcAA => plainEntry 1 1 1 maskZ0HC
  | .subAB => plainEntry 1 1 1 maskZ1HC
  | .subAC => plainEntry 1 1 1 maskZ1HC
  | .subAD => plainEntry 1 1 1 maskZ1HC
  | .subAE => plainEntry 1 1 1 maskZ1HC
  | .subAH => plainEntry 1 1 1 maskZ1HC
  | .subAL => plainEntry 1 1 1 maskZ1HC
  | .subAAtHl => plainEntry 1 2 2 maskZ1HC
  | .subAA => plainEntry 1 1 1 maskZ1HC
  | .sbcAB => plainEntry 1 1 1 maskZ1HC
  | .sbcAC => plainEntry 1 1 1 maskZ1HC
  | .sbcAD => plainEntry 1 1 1 maskZ1HC
  | .sbcAE => plainEntry 1 1 1 maskZ1HC
  | .sbcAH => plainEntry 1 1 1 maskZ1HC
  | .sbcAL => plainEntry 1 1 1 maskZ1HC
  | .sbcAAtHl => plainEntry 1 2 2 maskZ1HC
  | .sbcAA => plainEntry 1 1 1 maskZ1HC
  | .andAB => plainEntry 1 1 1 maskZ010
  | .andAC => plainEntry 1 1 1 maskZ010
  | .andAD => plainEntry 1 1 1 maskZ010
  | .andAE => plainEntry 1 1 1 maskZ010
  | .andAH => plainEntry 1 1 1 maskZ010
  | .andAL => plainEntry 1 1 1 maskZ010
  | .andAAtHl => plainEntry 1 2 2 maskZ010
  | .andAA => plainEntry 1 1 1 maskZ010
  | .xorAB => plainEntry 1 1 1 maskZ000
  | .xorAC => plainEntry 1 1 1 maskZ000
  | .xorAD => plainEntry 1 1 1 maskZ000
  | .xorAE => plainEntry 1 1 1 maskZ000
  | .xorAH => plainEntry 1 1 1 maskZ000
  | .xorAL => plainEntry 1 1 1 maskZ000
  | .xorAAtHl => plainEntry 1 2 2 maskZ000
  | .xorAA => plainEntry 1 1 1 maskZ000
  | .orAB => plainEntry 1 1 1 maskZ000
  | .orAC => plainEntry 1 1 1 maskZ000
  | .orAD => plainEntry 1 1 1 maskZ000
  | .orAE => plainEntry 1 1 1 maskZ000
  | .orAH => plainEntry 1 1 1 maskZ000
  | .orAL => plainEntry 1 1 1 maskZ000
  | .orAAtHl => plainEntry 1 2 2 maskZ000
  | .orAA => plainEntry 1 1 1 maskZ000
  | .cpAB => plainEntry 1 1 1 maskZ1HC
  | .cpAC => plainEntry 1 1 1 maskZ1HC
  | .cpAD => plainEntry 1 1 1 maskZ1HC
  | .cpAE => plainEntry 1 1 1 maskZ1HC
  | .cpAH => plainEntry 1 1 1 maskZ1HC
  | .cpAL => plainEntry 1 1 1 maskZ1HC
  | .cpAAtHl => plainEntry 1 2 2 maskZ1HC
  | .cpAA => plainEntry 1 1 1 maskZ1HC
  | .retNz => plainEntry 1 2 5 maskKKKK
  | .popBc => plainEntry 1 3 3 maskKKKK
  | .jpNzN16 _ => plainEntry 3 3 4 maskKKKK
  | .jpN16 _ => plainEntry 3 4 4 maskKKKK
  | .callNzN16 _ => plainEntry 3 3 6 maskKKKK
  | .pushBc => plainEntry 1 4 4 maskKKKK
  | .addAN8 _ => plainEntry 2 2 2 maskZ0HC
  | .rst00 => plainEntry 1 4 4 maskKKKK
  | .retZ => plainEntry 1 2 5 maskKKKK
  | .ret => plainEntry 1 4 4 maskKKKK
  | .jpZN16 _ => plainEntry 3 3 4 maskKKKK
  | .prefixCb => plainEntry 1 1 1 maskKKKK
  | .callZN16 _ => plainEntry 3 3 6 maskKKKK
  | .callN16 _ => plainEntry 3 6 6 maskKKKK
  | .adcAN8 _ => plainEntry 2 2 2 maskZ0HC
  | .rst08 => plainEntry 1 4 4 maskKKKK
  | .retNc => plainEntry 1 2 5 maskKKKK
  | .popDe => plainEntry 1 3 3 maskKKKK
  | .jpNcN16 _ => plainEntry 3 3 4 maskKKKK
  | .callNcN16 _ => plainEntry 3 3 6 maskKKKK
  | .pushDe => plainEntry 1 4 4 maskKKKK
  | .subAN8 _ => plainEntry 2 2 2 maskZ1HC
  | .rst10 => plainEntry 1 4 4 maskKKKK
  | .retC => plainEntry 1 2 5 maskKKKK
  | .reti => plainEntry 1 4 4 maskKKKK
  | .jpCN16 _ => plainEntry 3 3 4 maskKKKK
  | .callCN16 _ => plainEntry 3 3 6 maskKKKK
  | .sbcAN8 _ => plainEntry 2 2 2 maskZ1HC
  | .rst18 => plainEntry 1 4 4 maskKKKK
  | .ldhAtN8A _ => plainEntry 2 3 3 maskKKKK
  | .popHl => plainEntry 1 3 3 maskKKKK
  | .ldhAtCA => plainEntry 1 2 2 maskKKKK
  | .pushHl => plainEntry 1 4 4 maskKKKK
  | .andAN8 _ => plainEntry 2 2 2 maskZ010
  | .rst20 => plainEntry 1 4 4 maskKKKK
  | .addSpE8 _ => plainEntry 2 4 4 mask00HC
  | .jpHl => plainEntry 1 1 1 maskKKKK
  | .ldAtN16A _ => plainEntry 3 4 4 maskKKKK
  | .xorAN8 _ => plainEntry 2 2 2 maskZ000
  | .rst28 => plainEntry 1 4 4 maskKKKK
  | .ldhAAtN8 _ => plainEntry 2 3 3 maskKKKK
  | .popAf => plainEntry 1 3 3 maskZNHC
  | .ldhAAtC => plainEntry 1 2 2 maskKKKK
  | .di => plainEntry 1 1 1 maskKKKK
  | .pushAf => plainEntry 1 4 4 maskKKKK
  | .orAN8 _ => plainEntry 2 2 2 maskZ000
  | .rst30 => plainEntry 1 4 4 maskKKKK
  | .ldHlSpE8 _ => plainEntry 2 3 3 mask00HC
  | .ldSpHl => plainEntry 1 2 2 maskKKKK
  | .ldAAtN16 _ => plainEntry 3 4 4 maskKKKK
  | .ei => plainEntry 1 1 1 maskKKKK
  | .cpAN8 _ => plainEntry 2 2 2 maskZ1HC
  | .rst38 => plainEntry 1 4 4 maskKKKK
  | .rlcB => cbEntry 1 2 maskZ00C
  | .rlcC => cbEntry 1 2 maskZ00C
  | .rlcD => cbEntry 1 2 maskZ00C
  | .rlcE => cbEntry 1 2 maskZ00C
  | .rlcH => cbEntry 1 2 maskZ00C
  | .rlcL => cbEntry 1 2 maskZ00C
  | .rlcAtHl => cbEntry 3 4 maskZ00C
  | .rlcA => cbEntry 1 2 maskZ00C
  | .rrcB => cbEntry 1 2 maskZ00C
  | .rrcC => cbEntry 1 2 maskZ00C
  | .rrcD => cbEntry 1 2 maskZ00C
  | .rrcE => cbEntry 1 2 maskZ00C
  | .rrcH => cbEntry 1 2 maskZ00C
  | .rrcL => cbEntry 1 2 maskZ00C
  | .rrcAtHl => cbEntry 3 4 maskZ00C
  | .rrcA => cbEntry 1 2 maskZ00C
  | .rlB => cbEntry 1 2 maskZ00C
  | .rlC => cbEntry 1 2 maskZ00C
  | .rlD => cbEntry 1 2 maskZ00C
  | .rlE => cbEntry 1 2 maskZ00C
  | .rlH => cbEntry 1 2 maskZ00C
  | .rlL => cbEntry 1 2 maskZ00C
  | .rlAtHl => cbEntry 3 4 maskZ00C
  | .rlA => cbEntry 1 2 maskZ00C
  | .rrB => cbEntry 1 2 maskZ00C
  | .rrC => cbEntry 1 2 maskZ00C
  | .rrD => cbEntry 1 2 maskZ00C
  | .rrE => cbEntry 1 2 maskZ00C
  | .rrH => cbEntry 1 2 maskZ00C
  | .rrL => cbEntry 1 2 maskZ00C
  | .rrAtHl => cbEntry 3 4 maskZ00C
  | .rrA => cbEntry 1 2 maskZ00C
  | .slaB => cbEntry 1 2 maskZ00C
  | .slaC => cbEntry 1 2 maskZ00C
  | .slaD => cbEntry 1 2 maskZ00C
  | .slaE => cbEntry 1 2 maskZ00C
  | .slaH => cbEntry 1 2 maskZ00C
  | .slaL => cbEntry 1 2 maskZ00C
  | .slaAtHl => cbEntry 3 4 maskZ00C
  | .slaA => cbEntry 1 2 maskZ00C
  | .sraB => cbEntry 1 2 maskZ00C
  | .sraC => cbEntry 1 2 maskZ00C
  | .sraD => cbEntry 1 2 maskZ00C
  | .sraE => cbEntry 1 2 maskZ00C
  | .sraH => cbEntry 1 2 maskZ00C
  | .sraL => cbEntry 1 2 maskZ00C
  | .sraAtHl => cbEntry 3 4 maskZ00C
  | .sraA => cbEntry 1 2 maskZ00C
  | .swapB => cbEntry 1 2 maskZ000
  | .swapC => cbEntry 1 2 maskZ000
  | .swapD => cbEntry 1 2 maskZ000
  | .swapE => cbEntry 1 2 maskZ000
  | .swapH => cbEntry 1 2 maskZ000
  | .swapL => cbEntry 1 2 maskZ000
  | .swapAtHl => cbEntry 3 4 maskZ000
  | .swapA => cbEntry 1 2 maskZ000
  | .srlB => cbEntry 1 2 maskZ00C
  | .srlC => cbEntry 1 2 maskZ00C
  | .srlD => cbEntry 1 2 maskZ00C
  | .srlE => cbEntry 1 2 maskZ00C
  | .srlH => cbEntry 1 2 maskZ00C
  | .srlL => cbEntry 1 2 maskZ00C
  | .srlAtHl => cbEntry 3 4 maskZ00C
  | .srlA => cbEntry 1 2 maskZ00C
  | .bit0B => cbEntry 1 2 maskZ01K
  | .bit0C => cbEntry 1 2 maskZ01K
  | .bit0D => cbEntry 1 2 maskZ01K
  | .bit0E => cbEntry 1 2 maskZ01K
  | .bit0H => cbEntry 1 2 maskZ01K
  | .bit0L => cbEntry 1 2 maskZ01K
  | .bit0AtHl => cbEntry 2 3 maskZ01K
  | .bit0A => cbEntry 1 2 maskZ01K
  | .bit1B => cbEntry 1 2 maskZ01K
  | .bit1C => cbEntry 1 2 maskZ01K
  | .bit1D => cbEntry 1 2 maskZ01K
  | .bit1E => cbEntry 1 2 maskZ01K
  | .bit1H => cbEntry 1 2 maskZ01K
  | .bit1L => cbEntry 1 2 maskZ01K
  | .bit1AtHl => cbEntry 2 3 maskZ01K
  | .bit1A => cbEntry 1 2 maskZ01K
  | .bit2B => cbEntry 1 2 maskZ01K
  | .bit2C => cbEntry 1 2 maskZ01K
  | .bit2D => cbEntry 1 2 maskZ01K
  | .bit2E => cbEntry 1 2 maskZ01K
  | .bit2H => cbEntry 1 2 maskZ01K
  | .bit2L => cbEntry 1 2 maskZ01K
  | .bit2AtHl => cbEntry 2 3 maskZ01K
  | .bit2A => cbEntry 1 2 maskZ01K
  | .bit3B => cbEntry 1 2 maskZ01K
  | .bit3C => cbEntry 1 2 maskZ01K
  | .bit3D => cbEntry 1 2 maskZ01K
  | .bit3E => cbEntry 1 2 maskZ01K
  | .bit3H => cbEntry 1 2 maskZ01K
  | .bit3L => cbEntry 1 2 maskZ01K
  | .bit3AtHl => cbEntry 2 3 maskZ01K
  | .bit3A => cbEntry 1 2 maskZ01K
  | .bit4B => cbEntry 1 2 maskZ01K
  | .bit4C => cbEntry 1 2 maskZ01K
  | .bit4D => cbEntry 1 2 maskZ01K
  | .bit4E => cbEntry 1 2 maskZ01K
  | .bit4H => cbEntry 1 2 maskZ01K
  | .bit4L => cbEntry 1 2 maskZ01K
  | .bit4AtHl => cbEntry 2 3 maskZ01K
  | .bit4A => cbEntry 1 2 maskZ01K
  | .bit5B => cbEntry 1 2 maskZ01K
  | .bit5C => cbEntry 1 2 maskZ01K
  | .bit5D => cbEntry 1 2 maskZ01K
  | .bit5E => cbEntry 1 2 maskZ01K
  | .bit5H => cbEntry 1 2 maskZ01K
  | .bit5L => cbEntry 1 2 maskZ01K
  | .bit5AtHl => cbEntry 2 3 maskZ01K
  | .bit5A => cbEntry 1 2 maskZ01K
  | .bit6B => cbEntry 1 2 maskZ01K
  | .bit6C => cbEntry 1 2 maskZ01K
  | .bit6D => cbEntry 1 2 maskZ01K
  | .bit6E => cbEntry 1 2 maskZ01K
  | .bit6H => cbEntry 1 2 maskZ01K
  | .bit6L => cbEntry 1 2 maskZ01K
  | .bit6AtHl => cbEntry 2 3 maskZ01K
  | .bit6A => cbEntry 1 2 maskZ01K
  | .bit7B => cbEntry 1 2 maskZ01K
  | .bit7C => cbEntry 1 2 maskZ01K
  | .bit7D => cbEntry 1 2 maskZ01K
  | .bit7E => cbEntry 1 2 maskZ01K
  | .bit7H => cbEntry 1 2 maskZ01K
  | .bit7L => cbEntry 1 2 maskZ01K
  | .bit7AtHl => cbEntry 2 3 maskZ01K
  | .bit7A => cbEntry 1 2 maskZ01K
  | .res0B => cbEntry 1 2 maskKKKK
  | .res0C => cbEntry 1 2 maskKKKK
  | .res0D => cbEntry 1 2 maskKKKK
  | .res0E => cbEntry 1 2 maskKKKK
  | .res0H => cbEntry 1 2 maskKKKK
  | .res0L => cbEntry 1 2 maskKKKK
  | .res0AtHl => cbEntry 3 4 maskKKKK
  | .res0A => cbEntry 1 2 maskKKKK
  | .res1B => cbEntry 1 2 maskKKKK
  | .res1C => cbEntry 1 2 maskKKKK
  | .res1D => cbEntry 1 2 maskKKKK
  | .res1E => cbEntry 1 2 maskKKKK
  | .res1H => cbEntry 1 2 maskKKKK
  | .res1L => cbEntry 1 2 maskKKKK
  | .res1AtHl => cbEntry 3 4 maskKKKK
  | .res1A => cbEntry 1 2 maskKKKK
  | .res2B => cbEntry 1 2 maskKKKK
  | .res2C => cbEntry 1 2 maskKKKK
  | .res2D => cbEntry 1 2 maskKKKK
  | .res2E => cbEntry 1 2 maskKKKK
  | .res2H => cbEntry 1 2 maskKKKK
  | .res2L => cbEntry 1 2 maskKKKK
  | .res2AtHl => cbEntry 3 4 maskKKKK
  | .res2A => cbEntry 1 2 maskKKKK
  | .res3B => cbEntry 1 2 maskKKKK
  | .res3C => cbEntry 1 2 maskKKKK
  | .res3D => cbEntry 1 2 maskKKKK
  | .res3E => cbEntry 1 2 maskKKKK
  | .res3H => cbEntry 1 2 maskKKKK
  | .res3L => cbEntry 1 2 maskKKKK
  | .res3AtHl => cbEntry 3 4 maskKKKK
  | .res3A => cbEntry 1 2 maskKKKK
  | .res4B => cbEntry 1 2 maskKKKK
  | .res4C => cbEntry 1 2 maskKKKK
  | .res4D => cbEntry 1 2 maskKKKK
  | .res4E => cbEntry 1 2 maskKKKK
  | .res4H => cbEntry 1 2 maskKKKK
  | .res4L => cbEntry 1 2 maskKKKK
  | .res4AtHl => cbEntry 3 4 maskKKKK
  | .res4A => cbEntry 1 2 maskKKKK
  | .res5B => cbEntry 1 2 maskKKKK
  | .res5C => cbEntry 1 2 maskKKKK
  | .res5D => cbEntry 1 2 maskKKKK
  | .res5E => cbEntry 1 2 maskKKKK
  | .res5H => cbEntry 1 2 maskKKKK
  | .res5L => cbEntry 1 2 maskKKKK
  | .res5AtHl => cbEntry 3 4 maskKKKK
  | .res5A => cbEntry 1 2 maskKKKK
  | .res6B => cbEntry 1 2 maskKKKK
  | .res6C => cbEntry 1 2 maskKKKK
  | .res6D => cbEntry 1 2 maskKKKK
  | .res6E => cbEntry 1 2 maskKKKK
  | .res6H => cbEntry 1 2 maskKKKK
  | .res6L => cbEntry 1 2 maskKKKK
  | .res6AtHl => cbEntry 3 4 maskKKKK
  | .res6A => cbEntry 1 2 maskKKKK
  | .res7B => cbEntry 1 2 maskKKKK
  | .res7C => cbEntry 1 2 maskKKKK
  | .res7D => cbEntry 1 2 maskKKKK
  | .res7E => cbEntry 1 2 maskKKKK
  | .res7H => cbEntry 1 2 maskKKKK
  | .res7L => cbEntry 1 2 maskKKKK
  | .res7AtHl => cbEntry 3 4 maskKKKK
  | .res7A => cbEntry 1 2 maskKKKK
  | .set0B => cbEntry 1 2 maskKKKK
  | .set0C => cbEntry 1 2 maskKKKK
  | .set0D => cbEntry 1 2 maskKKKK
  | .set0E => cbEntry 1 2 maskKKKK
  | .set0H => cbEntry 1 2 maskKKKK
  | .set0L => cbEntry 1 2 maskKKKK
  | .set0AtHl => cbEntry 3 4 maskKKKK
  | .set0A => cbEntry 1 2 maskKKKK
  | .set1B => cbEntry 1 2 maskKKKK
  | .set1C => cbEntry 1 2 maskKKKK
  | .set1D => cbEntry 1 2 maskKKKK
  | .set1E => cbEntry 1 2 maskKKKK
  | .set1H => cbEntry 1 2 maskKKKK
  | .set1L => cbEntry 1 2 maskKKKK
  | .set1AtHl => cbEntry 3 4 maskKKKK
  | .set1A => cbEntry 1 2 maskKKKK
  | .set2B => cbEntry 1 2 maskKKKK
  | .set2C => cbEntry 1 2 maskKKKK
  | .set2D => cbEntry 1 2 maskKKKK
  | .set2E => cbEntry 1 2 maskKKKK
  | .set2H => cbEntry 1 2 maskKKKK
  | .set2L => cbEntry 1 2 maskKKKK
  | .set2AtHl => cbEntry 3 4 maskKKKK
  | .set2A => cbEntry 1 2 maskKKKK
  | .set3B => cbEntry 1 2 maskKKKK
  | .set3C => cbEntry 1 2 maskKKKK
  | .set3D => cbEntry 1 2 maskKKKK
  | .set3E => cbEntry 1 2 maskKKKK
  | .set3H => cbEntry 1 2 maskKKKK
  | .set3L => cbEntry 1 2 maskKKKK
  | .set3AtHl => cbEntry 3 4 maskKKKK
  | .set3A => cbEntry 1 2 maskKKKK
  | .set4B => cbEntry 1 2 maskKKKK
  | .set4C => cbEntry 1 2 maskKKKK
  | .set4D => cbEntry 1 2 maskKKKK
  | .set4E => cbEntry 1 2 maskKKKK
  | .set4H => cbEntry 1 2 maskKKKK
  | .set4L => cbEntry 1 2 maskKKKK
  | .set4AtHl => cbEntry 3 4 maskKKKK
  | .set4A => cbEntry 1 2 maskKKKK
  | .set5B => cbEntry 1 2 maskKKKK
  | .set5C => cbEntry 1 2 maskKKKK
  | .set5D => cbEntry 1 2 maskKKKK
  | .set5E => cbEntry 1 2 maskKKKK
  | .set5H => cbEntry 1 2 maskKKKK
  | .set5L => cbEntry 1 2 maskKKKK
  | .set5AtHl => cbEntry 3 4 maskKKKK
  | .set5A => cbEntry 1 2 maskKKKK
  | .set6B => cbEntry 1 2 maskKKKK
  | .set6C => cbEntry 1 2 maskKKKK
  | .set6D => cbEntry 1 2 maskKKKK
  | .set6E => cbEntry 1 2 maskKKKK
  | .set6H => cbEntry 1 2 maskKKKK
  | .set6L => cbEntry 1 2 maskKKKK
  | .set6AtHl => cbEntry 3 4 maskKKKK
  | .set6A => cbEntry 1 2 maskKKKK
  | .set7B => cbEntry 1 2 maskKKKK
  | .set7C => cbEntry 1 2 maskKKKK
  | .set7D => cbEntry 1 2 maskKKKK
  | .set7E => cbEntry 1 2 maskKKKK
  | .set7H => cbEntry 1 2 maskKKKK
  | .set7L => cbEntry 1 2 maskKKKK
  | .set7AtHl => cbEntry 3 4 maskKKKK
  | .set7A => cbEntry 1 2 maskKKKK
  | .undefinedD3 => undefinedEntry
  | .undefinedDB => undefinedEntry
  | .undefinedDD => undefinedEntry
  | .undefinedE3 => undefinedEntry
  | .undefinedE4 => undefinedEntry
  | .undefinedEB => undefinedEntry
  | .undefinedEC => undefinedEntry
  | .undefinedED => undefinedEntry
  | .undefinedF4 => undefinedEntry
  | .undefinedFC => undefinedEntry
  | .undefinedFD => undefinedEntry

/-- The selector a reference entry's length gives (R137, D52). -/
def selectorOf (length : Nat) : Selector :=
  match length with
  | 2 => .imm8
  | 3 => .imm16
  | _ => .none

/-- The M-cycles an entry is charged, by whether its effect changed PC, under a `PREFIX_CYCLE_SPLIT` (R132, R167). -/
def Descriptor.charged (row : Descriptor) (mode : CycleSplit) (pcChanged : Bool) : Nat :=
  match mode with
  | .split => if pcChanged then row.mcyclesTaken else row.mcycles
  | .bothFull => if pcChanged then row.fullTaken else row.fullMcycles

/-- The descriptor at an index of the reference table (R7, R120), its kind written with a zero immediate. -/
def referenceEntry (mode : CycleSplit) (index : Nat) : TableEntry :=
  let kind := decodeEntry (decide (256 ≤ index)) (BitVec.ofNat 8 index) 0 0
  let row := descriptor kind
  { length := row.length
    mcycles := row.charged mode false
    mcyclesTaken := row.charged mode true
    operand1 := selectorOf row.length
    operand2 := .none
    flags := row.flags
    effect := kind }

/-- `TABLE[index]` (R120, R121): the descriptor the parameter gives the index, else the reference one. -/
def tableEntry (c : Config) (index : Nat) : TableEntry :=
  match c.table.find? (fun e => e.1 == index) with
  | some e => e.2
  | none => referenceEntry c.prefixCycleSplit index

/-- Whether one of an entry's selectors is `k` (R137). -/
def entryLoads (e : TableEntry) (k : Selector) : Bool := e.operand1 == k || e.operand2 == k

/-- A kind with its immediate filled in from the loaded operands: `n8` where it takes a byte, `n16` where it takes a word
(R130, R165). -/
def fillOperands (kind : Instr) (n8 : Byte) (n16 : Word) : Instr :=
  let e := encodeEntry kind
  match e.bytes with
  | [op, _] => decodeEntry e.prefixed op n8 0
  | [op, _, _] => decodeEntry e.prefixed op (loByte n16) (hiByte n16)
  | _ => kind

end Sys2Proof.Machine
end

