-- ==== Sys2Proof/Machine/Engine.lean ====
section
/-!
DEFINITION. The CPU engine's step (40_cpu_engine.md R160 to R169): the interrupt poll and dispatch (60_exceptions.md R402,
R403), the fetch, the advance, the effect and the cycle charge.
-/

namespace Sys2Proof.Machine

/-- What a CPU step gives: the next state, its cost in cycles, and whether its iteration uses a slot (R161, R173). -/
structure CpuStep where
  state : State
  cycles : Nat
  usesSlot : Bool
deriving DecidableEq, Repr

/-- Whether the poll runs (R161, R402). -/
def pollRuns (s : State) : Bool := s.cpu.ime && (!s.cpu.prefixOp || s.cfg.pollMidPrefix)

/-- `MemRead(0xFFFF, 1) & MemRead(0xFF0F, 1) & 0x1F` (R402). -/
def pendingSources (s : State) : Byte := memRead s s.cfg.io.ieReg &&& memRead s s.cfg.io.ifReg &&& 0x1F#8

/-- The lowest set bit of the five sources: fixed priority, lower bit number first (R402, R404). -/
def lowestSource (pending : Byte) : Option Nat := (List.range 5).find? (fun k => pending.getLsbD k)

/-- The source a poll selects (R402). -/
def selectedSource (s : State) : Option Nat := if pollRuns s then lowestSource (pendingSources s) else none

/-- `op + 256 * PREFIX`, with `op <- MemRead(PC, 1)` (R121, R163). -/
def fetchIndex (s : State) : Nat := (memRead s s.cpu.pc).toNat + (if s.cpu.prefixOp then 256 else 0)

/-- `d <- TABLE[idx]` (R163). -/
def fetchEntry (s : State) : TableEntry := tableEntry s.cfg (fetchIndex s)

/-- The byte operand the selectors load (R137, R165); a free value where none of them loads it (log 19). -/
def loadedByte (s : State) (e : TableEntry) : Byte :=
  if entryLoads e .imm8 then memRead s (s.cpu.pc + 1) else loByte (Config.unloadedOperand (fetchIndex s))

/-- The word operand the selectors load (R137, R165); a free value where none of them loads it (log 19). -/
def loadedWord (s : State) (e : TableEntry) : Word :=
  if entryLoads e .imm16 then memRead16 s (s.cpu.pc + 1) else Config.unloadedOperand (fetchIndex s)

/-- The effect of the entry at PC with the operands its selectors load: read before the effect, without a side effect (R81,
R165). -/
def fetchInstr (s : State) : Instr :=
  fillOperands (fetchEntry s).effect (loadedByte s (fetchEntry s)) (loadedWord s (fetchEntry s))

/-- The state an effect starts from: PREFIX cleared by the fetch and `pc0 <- PC` (R163), PC advanced by the entry's length
(R164). -/
def advancePc (s : State) (length : Nat) : State :=
  ((s.setPrefixOp false).setPc (s.cpu.pc + BitVec.ofNat 16 length)).setPc0 s.cpu.pc

/-- An entry whose index is in `BREAK_OPCODES` raises the breakpoint-trigger flag after its effect (R348). -/
def raiseBreak (index : Nat) (t : State) : State :=
  if t.cfg.breakOpcodes.contains index then t.setBreakFlag true else t

/-- The cost of an executed entry in cycles: by comparing PC before and after the effect (R167). -/
def cycleCharge (e : TableEntry) (before after : State) : Nat :=
  4 * (if after.cpu.pc = before.cpu.pc then e.mcycles else e.mcyclesTaken)

/-- Fetch and execute one table entry (R163 to R167). An iteration whose effect set PREFIX uses no slot (R168, R173). -/
def fetchExecute (s : State) : Host.Outcome CpuStep Fault Refusal :=
  let before := advancePc s (fetchEntry s).length
  match exec (fetchInstr s) before with
  | .next t => .next ⟨raiseBreak (fetchIndex s) t, cycleCharge (fetchEntry s) before t, !t.cpu.prefixOp⟩
  | .fault r => .fault r
  | .refused r => .refused r

/-- One CPU step (R161): a dispatch of the selected source, at 20 cycles and one slot (R403, D58), or one table entry. -/
def cpuStep (s : State) : Host.Outcome CpuStep Fault Refusal :=
  match selectedSource s with
  | some k => .next ⟨takeInterrupt (ifClear s k) k, 20, true⟩
  | none => fetchExecute s

end Sys2Proof.Machine
end

