-- ==== Sys2Proof/Machine/Render.lean ====
section
/-!
DEFINITION. The scanline renderer (60_exceptions.md R450 to R457; 10_state.md R43, R59, R61, R67, R68).
A colour id is a natural 0..3. Every read is a direct read of the memory as it stands when the line completes (R450, R458).
-/

namespace Sys2Proof.Machine

/-- The visible width `SB_LCD_W` (R14). -/
def lcdWidth : Nat := 160

/-- The visible height `SB_LCD_H` (R14). -/
def lcdHeight : Nat := 144

/-- `2*hi[b] + lo[b]`, the colour id of bit `b` of a tile row (R68, R451). -/
def colorId (lo hi : Byte) (b : Nat) : Nat := 2 * (hi.getLsbD b).toNat + (lo.getLsbD b).toNat

/-- `tile_addr(idx)` (R452): unsigned from 0x8000 when LCDC[4] = 1, signed from 0x9000 when LCDC[4] = 0. -/
def tileAddr (lcdc idx : Byte) : Word :=
  if lcdc.getLsbD 4 then 0x8000#16 + 16#16 * zext16 idx else 0x9000#16 + 16#16 * sext16 idx

/-- The background colour id of pixel (x, y) (R451). -/
def bgPixel (s : State) (lcdc : Byte) (y x : Nat) : Nat :=
  if lcdc.getLsbD 0 then
    let sx := if s.cfg.bgScroll then (x + (directRead s s.cfg.io.scx).toNat) % 256 else x
    let sy := if s.cfg.bgScroll then (y + (directRead s s.cfg.io.scy).toNat) % 256 else y
    let map : Word := if lcdc.getLsbD 3 then 0x9C00 else 0x9800
    let idx := directRead s (map + BitVec.ofNat 16 (32 * (sy / 8) + sx / 8))
    let row := tileAddr lcdc idx + BitVec.ofNat 16 (2 * (sy % 8))
    colorId (directRead s row) (directRead s (row + 1)) (7 - sx % 8)
  else 0

/-- An OAM entry (R67). -/
structure Sprite where
  y : Byte
  x : Byte
  tile : Byte
  attr : Byte
deriving DecidableEq, Repr

/-- OAM entry i, at `0xFE00 + 4*i` (R67). -/
def oamEntry (s : State) (i : Nat) : Sprite where
  y := directRead s (oamBase + BitVec.ofNat 16 (4 * i))
  x := directRead s (oamBase + BitVec.ofNat 16 (4 * i + 1))
  tile := directRead s (oamBase + BitVec.ofNat 16 (4 * i + 2))
  attr := directRead s (oamBase + BitVec.ofNat 16 (4 * i + 3))

/-- The sprite height (R59, R453). -/
def spriteHeight (lcdc : Byte) : Nat := if lcdc.getLsbD 2 then 16 else 8

/-- `Y - 16 ≤ y < Y - 16 + h`, an integer comparison (R453). -/
def spriteOnLine (lcdc : Byte) (y : Nat) (p : Sprite) : Bool :=
  decide ((p.y.toNat : Int) - 16 ≤ (y : Int)) && decide ((y : Int) < (p.y.toNat : Int) - 16 + (spriteHeight lcdc : Int))

/-- The first 10 of the 40 OAM entries on line y, none when LCDC[1] = 0 (R453). -/
def spritesOnLine (s : State) (lcdc : Byte) (y : Nat) : List Sprite :=
  if lcdc.getLsbD 1 then (((List.range 40).map (oamEntry s)).filter (spriteOnLine lcdc y)).take 10 else []

/-- The two bytes of a sprite's tile row on line y: low, high (R454). -/
def spriteRow (s : State) (lcdc : Byte) (y : Nat) (p : Sprite) : Byte × Byte :=
  let h := spriteHeight lcdc
  let row0 := y + 16 - p.y.toNat
  let row := if s.cfg.spriteFlips && p.attr.getLsbD 6 then h - 1 - row0 else row0
  let tile := if h = 16 then p.tile &&& 0xFE#8 else p.tile
  let a := 0x8000#16 + 16#16 * zext16 tile + BitVec.ofNat 16 (2 * row)
  (directRead s a, directRead s (a + 1))

/-- One pixel of a sprite over a line of colour ids: skipped off-screen, transparent when its id is 0 (R454). -/
def drawSpritePixel (flipX : Bool) (p : Sprite) (lo hi : Byte) (line : List Nat) (col : Nat) : List Nat :=
  let x := p.x.toNat + col
  let cid := colorId lo hi (if flipX then col else 7 - col)
  if x < 8 ∨ 8 + lcdWidth ≤ x ∨ cid = 0 then line else line.set (x - 8) cid

/-- One sprite over a line of colour ids (R454). -/
def drawSprite (s : State) (lcdc : Byte) (y : Nat) (line : List Nat) (p : Sprite) : List Nat :=
  let rowBytes := spriteRow s lcdc y p
  (List.range 8).foldl (drawSpritePixel (s.cfg.spriteFlips && p.attr.getLsbD 5) p rowBytes.1 rowBytes.2) line

/-- The colour ids of line y: the background, then the sprites in ascending OAM order (R450, R455). -/
def lineIds (s : State) (y : Nat) : List Nat :=
  let lcdc := directRead s s.cfg.io.lcdc
  (spritesOnLine s lcdc y).foldl (drawSprite s lcdc y) ((List.range lcdWidth).map (bgPixel s lcdc y))

/-- `SHADE[id]` (R456). -/
def shadeOf (v : Shade) : Nat → Byte
  | 0 => v.id0
  | 1 => v.id1
  | 2 => v.id2
  | _ => v.id3

/-- The 480 bytes of line y: the shade of each pixel in red, green and blue (R456). -/
def lineBytes (s : State) (y : Nat) : List Byte :=
  (lineIds s y).flatMap (fun id => [shadeOf s.cfg.shade id, shadeOf s.cfg.shade id, shadeOf s.cfg.shade id])

/-- Replace a line of the framebuffer, keeping the lines in rising order. -/
def Framebuffer.setLine : Framebuffer → Nat → List Byte → Framebuffer
  | [], y, v => [(y, v)]
  | (z, w) :: fb, y, v =>
    if y < z then (y, v) :: (z, w) :: fb
    else if y = z then (y, v) :: fb
    else (z, w) :: Framebuffer.setLine fb y v

/-- The framebuffer byte at an index `(x + y*160)*3 + k`; a line never drawn reads as its free power-on bytes (log 6). -/
def framebufferByte (fb : Framebuffer) (i : Nat) : Byte :=
  match fb.find? (fun e => e.1 == i / 480) with
  | some e => e.2.getD (i % 480) 0
  | none => Config.framebufferAtPowerOn i

/-- `render_scanline(y)` (R450). -/
def renderScanline (s : State) (y : Nat) : State := s.setFramebuffer (Framebuffer.setLine s.framebuffer y (lineBytes s y))

end Sys2Proof.Machine
end

