-- ==== Sys2Proof/Machine/Ppu.lean ====
section
/-!
DEFINITION. The PPU timing state machine (60_exceptions.md R440 to R449).
-/

namespace Sys2Proof.Machine

/-- `mode(ly, sc)` (R441). -/
def ppuMode (ly sc : Nat) : Nat := if 144 ≤ ly then 1 else if sc ≤ 80 then 2 else if sc ≤ 248 then 3 else 0

/-- The new-scanline event of the line just completed: rendered iff it is a visible line (R444). -/
def newScanlineEvent (s : State) (completed : Nat) : State :=
  if completed < lcdHeight then renderScanline s completed else s

/-- One crossing of the 456-dot boundary (the body of R443's loop). -/
def crossLine (s : State) : State :=
  let completed := s.lcd.ly
  let dots := match s.cfg.lineWrap with
    | .subtract => s.lcd.scanlineCycles - 456
    | .zero => 0
  newScanlineEvent (s.setLcd { scanlineCycles := dots, ly := (s.lcd.ly + 1) % 154 }) completed

/-- R443's loop `while scanline_cycles >= 456`, at most `fuel` times; a crossing takes off at least 456 dots, so
`scanline_cycles / 456` is fuel enough (log 16). -/
def crossLines : Nat → State → State
  | 0, s => s
  | fuel + 1, s => if 456 ≤ s.lcd.scanlineCycles then crossLines fuel (crossLine s) else s

/-- The STAT byte after an advance: bits 2..0 written, bits 7..3 kept (R445). -/
def statByte (old : Byte) (mode : Nat) (coincidence : Bool) : Byte :=
  (old &&& 0xF8#8) ||| (BitVec.ofNat 8 mode ||| (if coincidence then 4#8 else 0#8))

/-- Whether a request of R446, R447 may be made in this advance: always under `level`, at a crossing under `edge` (R448). -/
def requestAllowed (mode : PpuIrqMode) (crossed : Bool) : Bool :=
  match mode with
  | .level => true
  | .edge => crossed

/-- `IF.set(k)` when the condition holds. -/
def requestIf (s : State) (k : Nat) (b : Bool) : State := if b then ifSet s k else s

/-- LY == LYC (R445, R447). -/
def lyMatches (s : State) : Bool := s.lcd.ly == (directRead s s.cfg.io.lyc).toNat

/-- After the crossing: STAT (R445), the VBlank request (R446), the STAT request (R447), the LY mirror (R449). -/
def ppuReport (s : State) (crossed : Bool) : State :=
  let s1 := directWrite s s.cfg.io.stat
    (statByte (directRead s s.cfg.io.stat) (ppuMode s.lcd.ly s.lcd.scanlineCycles) (lyMatches s))
  let allowed := requestAllowed s.cfg.ppuIrqMode crossed
  let s2 := requestIf s1 0 (allowed && (s1.lcd.ly == 144))
  let s3 := requestIf s2 1 (allowed && lyMatches s2)
  directWrite s3 s.cfg.io.ly (BitVec.ofNat 8 s3.lcd.ly)

/-- `ppu_advance(c)` (R440): frozen with LY held at 0 while LCDC[7] = 0 (R442). -/
def ppuAdvance (s : State) (c : Nat) : State :=
  if (directRead s s.cfg.io.lcdc).getLsbD 7 then
    let dots := s.lcd.scanlineCycles + c
    let t := crossLines (dots / 456) (s.setLcd { s.lcd with scanlineCycles := dots })
    ppuReport t (decide (456 ≤ dots))
  else directWrite (s.setLcd { s.lcd with ly := 0 }) s.cfg.io.ly 0

end Sys2Proof.Machine
end

