-- ==== Sys2Proof/Machine/Timer.lean ====
section
/-!
DEFINITION. The Timer Unit (60_exceptions.md R410 to R415; 10_state.md R42, R55 to R58).
-/

namespace Sys2Proof.Machine

/-- The DIV period in cycles (R13, R411). -/
def divPeriod : Int := 256

/-- The TIMA period in cycles of TAC bits 1..0 (R58, R412). -/
def timaPeriod (tac : Byte) : Int :=
  match tac.toNat % 4 with
  | 0 => 1024
  | 1 => 16
  | 2 => 64
  | _ => 256

/-- "re-arms with remaining_budget + period, clamped to ≥0" (R411, R413). -/
def rearm (budget period : Int) : Int := max 0 (budget + period)

/-- The DIV part of an advance (R411): at most one increment. -/
def divAdvance (s : State) (c : Nat) : State :=
  let left := s.timer.clocksTillDivInc - (c : Int)
  if left ≤ 0 then
    (directWrite s s.cfg.io.div (directRead s s.cfg.io.div + 1)).setTimer { s.timer with clocksTillDivInc := rearm left divPeriod }
  else s.setTimer { s.timer with clocksTillDivInc := left }

/-- TIMA's increment (R413, R414): on overflow the Timer interrupt is requested, then the new value is stored. -/
def timaIncrement (s : State) : State :=
  if directRead s s.cfg.io.tima = 0xFF#8 then
    let t := ifSet s 2
    directWrite t s.cfg.io.tima (if s.cfg.timaReloadFromTma then directRead t s.cfg.io.tma else 0)
  else directWrite s s.cfg.io.tima (directRead s s.cfg.io.tima + 1)

/-- The TIMA part of an advance (R412, R413): nothing while TAC[2] = 0. -/
def timaAdvance (s : State) (c : Nat) : State :=
  let tac := directRead s s.cfg.io.tac
  if tac.getLsbD 2 then
    let left := s.timer.clocksTillTimaInc - (c : Int)
    if left ≤ 0 then
      (timaIncrement s).setTimer { s.timer with clocksTillTimaInc := rearm left (timaPeriod tac) }
    else s.setTimer { s.timer with clocksTillTimaInc := left }
  else s

/-- `timer_advance(c)` (R410). -/
def timerAdvance (s : State) (c : Nat) : State := timaAdvance (divAdvance s c) c

end Sys2Proof.Machine
end

