-- ==== Sys2Proof/Machine/ResetLoad.lean ====
section
/-!
DEFINITION. Power-on, the reset procedure and the cartridge load (70_reset_and_hazards.md R500 to R508).
-/

namespace Sys2Proof.Machine

/-- The CPU registers a reset leaves (R70). -/
def resetCpu : Cpu :=
  { af := 0x01B0, bc := 0x0013, de := 0x00D8, hl := 0x014D, sp := 0xFFFE, pc := 0x0100, ime := false, prefixOp := false }

/-- `for (a, v) in POST_BOOT_IO: DirectWrite(a, v)` (R501, R502). -/
def writePostBoot (s : State) : State := s.cfg.postBootIo.foldl (fun t e => directWrite t e.1 e.2) s

/-- `reset()` (R501). -/
def resetMachine (s : State) : State :=
  let s1 := writePostBoot (s.setCpu resetCpu)
  let s2 := directWrite (s1.setLcd { scanlineCycles := 0, ly := 0 }) s.cfg.io.ly 0
  let s3 := s2.setTimer { clocksTillDivInc := 256, clocksTillTimaInc := timaPeriod (directRead s2 s.cfg.io.tac) }
  (s3.setBreakFlag false).setSlotsDone 0

/-- The power-on state (R71, R500): INITIAL_MEMORY and the parameters are arguments (R12); so are the CPU registers, the LCD
timing and the timer budgets, for which the spec gives no power-on value (log 10).
DESIGN CHOICE (log 10): `break_flag` is false and `slots_done` 0, the values R71 gives them after a reset; the spec gives them
no power-on value. -/
def powerOn (cfg : Config) (initialMemory : Memory) (cpu : Cpu) (lcd : LcdTiming) (timer : TimerState) : State where
  cpu := cpu
  mem := initialMemory
  lcd := lcd
  timer := timer
  framebuffer := []
  joypad :=
    { up := false, down := false, left := false, right := false, a := false, b := false, start := false, select := false }
  cart := none
  ring := { slots := List.replicate cfg.saveCapacity none, cursor := 0, count := 0 }
  runState := .paused
  breakpoint := none
  breakFlag := false
  slotsDone := 0
  serialOut := []
  traceOut := []
  cfg := cfg
  inBatch := false
  hostScript := []
  pc0 := 0

/-- A header byte of a ROM image; past the image's end a free value (log 8). -/
def headerByte (rom : List Byte) (offset : Nat) : Byte :=
  match rom[offset]? with
  | some v => v
  | none => Config.absentHeaderByte offset

/-- The ROM size in bytes of byte 0x148 (R505). -/
def romSizeOf (b : Byte) : Nat :=
  let n := b.toNat
  if n ≤ 8 then 32768 * 2 ^ n
  else if n = 0x52 then 72 * 16384
  else if n = 0x53 then 80 * 16384
  else if n = 0x54 then 96 * 16384
  else 32768

/-- The RAM size in bytes of byte 0x149 (R506). -/
def ramSizeOf (b : Byte) : Nat :=
  match b.toNat with
  | 2 => 8192
  | 3 => 32768
  | 4 => 131072
  | 5 => 65536
  | _ => 0

/-- The cartridge's decoded header and its ROM bytes (R45, R504). -/
def decodeHeader (rom : List Byte) : Cartridge where
  title := (List.range 11).map (fun i => headerByte rom (0x134 + i))
  colorFlag := (headerByte rom 0x143).getLsbD 7
  cartType := headerByte rom 0x147
  romSize := romSizeOf (headerByte rom 0x148)
  ramSize := ramSizeOf (headerByte rom 0x149)
  rom := rom

/-- Direct writes of a list of bytes from an address up. -/
def writeBytes (s : State) (a : Word) : List Byte → State
  | [] => s
  | v :: vs => writeBytes (directWrite s a v) (a + 1) vs

/-- The load procedure (R507): the first 32 KiB of the ROM into memory, then the reset. -/
def loadCartridge (s : State) (rom : List Byte) : State :=
  resetMachine (writeBytes (s.setCart (some (decodeHeader rom))) 0 (rom.take 0x8000))

end Sys2Proof.Machine
end

