-- ==== Sys2Proof/Machine/SaveStates.lean ====
section
/-!
DEFINITION. The Save-State Stack (60_exceptions.md R470 to R475; 10_state.md R46).
-/

namespace Sys2Proof.Machine

/-- `snapshot()`: the parts of R470. -/
def takeSnapshot (s : State) : Snapshot where
  cpu := s.cpu
  mem := s.mem
  lcd := s.lcd
  timer := s.timer
  framebuffer := s.framebuffer
  joypad := s.joypad

/-- `restore(x)`: exactly the parts of R470; the ring, the orchestrator's state, the sinks and the cartridge stay (R472). -/
def restoreSnapshot (s : State) (x : Snapshot) : State :=
  (((((s.setCpu x.cpu).setMem x.mem).setLcd x.lcd).setTimer x.timer).setFramebuffer x.framebuffer).setJoypad x.joypad

/-- `push()` (R471), with K = `SAVE_CAPACITY`. -/
def pushSaveState (s : State) : State :=
  let k := s.cfg.saveCapacity
  s.setRing
    { slots := s.ring.slots.set (s.ring.cursor % k) (some (takeSnapshot s))
      cursor := s.ring.cursor + 1
      count := min (s.ring.count + 1) k }

/-- The contents of a slot; one never pushed holds a free value (log 7). -/
def slotContents (s : State) (i : Nat) : Snapshot :=
  match s.ring.slots.getD i none with
  | some x => x
  | none => Config.neverPushedSlot i

/-- `pop()` (R472): a silent no-op on an empty ring. -/
def popSaveState (s : State) : State :=
  if s.ring.count = 0 then s
  else
    let cursor := s.ring.cursor - 1
    restoreSnapshot (s.setRing { s.ring with cursor := cursor, count := s.ring.count - 1 })
      (slotContents s (cursor % s.cfg.saveCapacity))

end Sys2Proof.Machine
end

