-- ==== Sys2Proof/Machine/Orchestrator.lean ====
section
/-!
DEFINITION. The Tick Orchestrator (40_cpu_engine.md R170 to R179): the iteration, the breakpoint check, the batch of a host
frame, the end of the frame, and the host's actions between frames.
-/

namespace Sys2Proof.Machine

/-- The start of an iteration: the break flag cleared, the joypad sampled, the trace line written (R170). -/
def beginIteration (s : State) : State := emitTrace (joypadSample (s.setBreakFlag false))

/-- The breakpoint check (R171). -/
def breakpointCheck (s : State) : State :=
  if s.breakpoint = some s.cpu.pc ∨ s.breakFlag = true then s.setRunState .paused else s

/-- The end of an iteration: the timer, then the PPU, both with the same cost, then the breakpoint check (R170, R171). -/
def endIteration (s : State) (c : Nat) : State := breakpointCheck (ppuAdvance (timerAdvance s c) c)

/-- Count the iteration's slot (R173). -/
def countSlot (s : State) (usesSlot : Bool) : State := if usesSlot then s.setSlotsDone (s.slotsDone + 1) else s

/-- One iteration (R170), with its slot counted (R173). `Stuck` ends it with no next state (R346). -/
def iteration (s : State) : Result :=
  match cpuStep (beginIteration s) with
  | .next x => .next (countSlot (endIteration x.state x.cycles) x.usesSlot)
  | .fault r => .fault r
  | .refused r => .refused r

/-- The slots a batch may use (R172, R174, R177). -/
def batchBudget (s : State) : Nat :=
  match s.runState with
  | .running => s.cfg.instrsPerFrame
  | .step => 1
  | .paused => 0

/-- Whether the batch ends here: its budget is used up, or the breakpoint check paused it (R171, R172). -/
def batchEnds (s : State) : Bool := decide (s.runState = .paused) || decide (batchBudget s ≤ s.slotsDone)

/-- The end of a frame whose batch ran: Step becomes Paused (R174), a snapshot is pushed (R175). -/
def endFrame (s : State) : State :=
  let s1 := if s.runState = .step then s.setRunState .paused else s
  let s2 := if s1.cfg.rewindPushPerFrame then pushSaveState s1 else s1
  s2.setInBatch false

/-- One iteration inside a batch, and the end of the frame when the batch ends with it (R172 to R175). -/
def batchIteration (s : State) : Result :=
  match iteration s with
  | .next t => .next (if batchEnds t then endFrame t else t)
  | .fault r => .fault r
  | .refused r => .refused r

/-- One host action (R176, R500, R507). -/
def hostAct (s : State) : HostAction → State
  | .setJoypad j => s.setJoypad j
  | .setRunState r => s.setRunState r
  | .setBreakpoint b => s.setBreakpoint b
  | .popSaveState => popSaveState s
  | .requestReset => resetMachine s
  | .loadCartridge rom => loadCartridge s rom

/-- The frame boundary: the host's actions for it, in their order (log 3). -/
def hostBoundary (s : State) : State :=
  match s.hostScript with
  | [] => s
  | acts :: rest => acts.foldl hostAct (s.setHostScript rest)

/-- The start of a batch (R172). -/
def beginBatch (s : State) : State := (s.setSlotsDone 0).setInBatch true

/-- One transition of the machine (R10, R172; log 1): inside a batch, one iteration; between batches, the host's actions of the
frame boundary and then the first iteration of the new batch, or none when its budget is 0. -/
def transition (s : State) : Result :=
  if s.inBatch then batchIteration s
  else
    let t := hostBoundary s
    if batchBudget t = 0 then .next t else batchIteration (beginBatch t)

end Sys2Proof.Machine
end

