-- ==== Sys2Proof/Machine/Step.lean ====
section
/-!
DEFINITION. The step of the machine, and the state that runs a given table word next.
-/

namespace Sys2Proof.Machine

/-- One transition (00_scope.md R10): see `transition`. -/
def step (s : State) : Host.Outcome State Fault Refusal := transition s

/-- `s` with a table word's bytes stored at PC, so that the next step fetches and runs exactly that instruction (log 13, 14):
PREFIX says whether the entry is read in prefixed-fetch state; TABLE has its reference descriptor there; the machine is inside
the batch of a running frame; and IME is off if a poll would dispatch an interrupt first. -/
def State.withFetchWord (s : State) (nbits w : Nat) : State :=
  let word := tableWordBytes nbits w
  let index := (word.2.headD 0).toNat + (if word.1 then 256 else 0)
  let s0 := { s with cfg := { s.cfg with table := s.cfg.table.filter (fun e => !(e.1 == index)) } }
  let s1 := (writeBytes s0 s0.cpu.pc word.2).setPrefixOp word.1
  let s2 := (if s1.runState = .paused then s1.setRunState .running else s1).setInBatch true
  if (selectedSource s2).isSome then s2.setIme false else s2

end Sys2Proof.Machine
end

