-- ==== Sys2Proof/WellFormed.lean ====
section
/-!
DEFINITION. Well-formedness.
An instruction's fields are bit vectors of exactly the widths its encoding gives them (R130), so every term of `Instr` is well
formed and there is nothing to refuse. The checks are those of the parameters (00_scope.md R12).
-/

namespace Sys2Proof

/-- Every instruction is well formed: its immediates have the exact widths of R130. -/
def Instr.wellFormed (_ : Instr) : Bool := true

/-- `INSTRS_PER_FRAME` is a natural ≥ 1 (R12). -/
def Config.instrsPerFrameOk (c : Config) : Bool := decide (1 ≤ c.instrsPerFrame)

/-- `SAVE_CAPACITY` is a natural ≥ 1 (R12). -/
def Config.saveCapacityOk (c : Config) : Bool := decide (1 ≤ c.saveCapacity)

/-- `BREAK_OPCODES` is a set of table indices 0..511 (R12). -/
def Config.breakOpcodesOk (c : Config) : Bool := c.breakOpcodes.all (fun k => decide (k < 512)) && decide c.breakOpcodes.Nodup

/-- A selector loads the operand the entry's kind takes (R120, R137): `imm8` for a byte, `imm16` for a word (log 19). -/
def TableEntry.operandsOk (e : TableEntry) : Bool :=
  match (encodeEntry e.effect).bytes.length with
  | 2 => e.operand1 == .imm8 || e.operand2 == .imm8
  | 3 => e.operand1 == .imm16 || e.operand2 == .imm16
  | _ => true

/-- A descriptor has a length 1..3 (R120, R122) and loads what its kind takes. -/
def TableEntry.wellFormed (e : TableEntry) : Bool := decide (1 ≤ e.length) && decide (e.length ≤ 3) && e.operandsOk

/-- `TABLE` has 512 descriptors (R120): each difference has its own index 0..511, in rising order (log 9). -/
def Config.tableOk (c : Config) : Bool :=
  c.table.all (fun e => decide (e.1 < 512) && e.2.wellFormed) && decide (c.table.Pairwise (fun a b => a.1 < b.1))

/-- `IO_ADDR` gives each register its own address, none in ROM, where a store is dropped (R50, R83; log 21). -/
def Config.ioOk (c : Config) : Bool :=
  c.io.addresses.all (fun a => decide (0x7FFF < a.toNat)) && decide c.io.addresses.Nodup

/-- The parameters have the types of R12. -/
def Config.wellFormed (c : Config) : Bool :=
  c.instrsPerFrameOk && c.saveCapacityOk && c.breakOpcodesOk && c.tableOk && c.ioOk

end Sys2Proof
end

