-- ==== Sys2Proof/Safety.lean ====
section
/-!
DEFINITION. What counts as a safe state, and the terms the statements use: the invariant of the machine, the effect of a
mediated store as a function of the bytes before it (20_memory.md R82 to R88), and the frames.
-/

namespace Sys2Proof.Machine

/-! ### The invariant -/

/-- F[3:0] = 0 (10_state.md R34). -/
def Cpu.flagsOk (c : Cpu) : Prop := loByte c.af &&& 0x0F#8 = 0#8

/-- `scanline_cycles` 0..455 and `ly` 0..153 (R41). -/
def LcdTiming.ok (l : LcdTiming) : Prop := l.scanlineCycles < 456 ∧ l.ly < 154

/-- "After every timer advance both are ≥ 0" (R42). -/
def TimerState.ok (t : TimerState) : Prop := 0 ≤ t.clocksTillDivInc ∧ 0 ≤ t.clocksTillTimaInc

/-- The framebuffer's lines: visible, in rising order, 480 bytes each (R43). -/
def Framebuffer.ok (fb : Framebuffer) : Prop :=
  fb.Pairwise (fun a b => a.1 < b.1) ∧ ∀ e ∈ fb, e.1 < 144 ∧ e.2.length = 480

/-- The byte at LY is the PPU's `ly` (R62, 60_exceptions.md R449). -/
def lyMirrored (io : IoAddr) (m : Memory) (l : LcdTiming) : Prop := Memory.read m io.ly.toNat = BitVec.ofNat 8 l.ly

/-- What holds of the parts a snapshot copies (R46). -/
structure PartsOk (io : IoAddr) (cpu : Cpu) (mem : Memory) (lcd : LcdTiming) (timer : TimerState) (fb : Framebuffer) : Prop where
  memoryOk : Memory.wf mem
  flagsOk : cpu.flagsOk
  lcdOk : lcd.ok
  timerOk : timer.ok
  framebufferOk : fb.ok
  mirror : lyMirrored io mem lcd

/-- A snapshot of a good state. -/
def Snapshot.ok (x : Snapshot) (io : IoAddr) : Prop := PartsOk io x.cpu x.mem x.lcd x.timer x.framebuffer

/-- The ring's invariants (R473): K slots, `count ≤ K`, `count ≤ cursor`, and the `count` most recent slots hold snapshots. -/
structure SaveRing.ok (r : SaveRing) (k : Nat) (io : IoAddr) : Prop where
  capacity : 1 ≤ k
  size : r.slots.length = k
  countLeCapacity : r.count ≤ k
  countLeCursor : r.count ≤ r.cursor
  valid : ∀ j, j < r.count → (r.slots.getD ((r.cursor - 1 - j) % k) none).isSome = true
  stored : ∀ x, some x ∈ r.slots → x.ok io

/-- The invariant of the machine: it holds at every boundary. -/
structure GoodState (s : State) : Prop where
  parts : PartsOk s.cfg.io s.cpu s.mem s.lcd s.timer s.framebuffer
  ring : s.ring.ok s.cfg.saveCapacity s.cfg.io
  config : s.cfg.wellFormed = true
  /-- Inside a batch slots remain (40_cpu_engine.md R172). -/
  batch : s.inBatch = true → s.slotsDone < batchBudget s

/-! ### Frames -/

/-- Everything is as before but the CPU registers: memory, devices, ring, orchestrator, sinks, parameters. -/
def OnlyCpu (s t : State) : Prop := s.setCpu t.cpu = t

/-- Everything is as before but the CPU registers, the memory image and the serial sink's history. -/
def OnlyCpuMemSerial (s t : State) : Prop := ((s.setCpu t.cpu).setMem t.mem).setSerialOut t.serialOut = t

/-- Every byte of memory reads as before. -/
def SameMemory (s t : State) : Prop := ∀ x : Word, directRead t x = directRead s x

/-- Nothing is stored: every byte reads as before, and all but the CPU registers is as before. -/
def StoresNothing (s t : State) : Prop := SameMemory s t ∧ OnlyCpu s t

/-- SP, PC, IME and PREFIX are as before. -/
def SameControl (s t : State) : Prop :=
  t.cpu.sp = s.cpu.sp ∧ t.cpu.pc = s.cpu.pc ∧ t.cpu.ime = s.cpu.ime ∧ t.cpu.prefixOp = s.cpu.prefixOp

/-- The seven 8-bit registers are as before. -/
def SameR8 (s t : State) : Prop := ∀ x : R8, t.r8 x = s.r8 x

/-- Every 8-bit register but one is as before. -/
def SameR8But (s t : State) (r : R8) : Prop := ∀ x : R8, x ≠ r → t.r8 x = s.r8 x

/-- The four flags have these values, and F[3:0] = 0 (R33, R34). -/
def FlagsAre (t : State) (z n h c : Bool) : Prop :=
  t.zf = z ∧ t.nf = n ∧ t.hf = h ∧ t.cf = c ∧ t.regF &&& 0x0F#8 = 0#8

/-! ### Stores -/

/-- The byte at `x` after the mediated write of `v` to `a`, where `m` gives the bytes before it: R82's cases with the effects
of R83 (dropped), R84 (OAM DMA), R85 (DIV), R86 (SB, not stored), R87 (plain). -/
def byteAfterStore (io : IoAddr) (m : Word → Byte) (a : Word) (v : Byte) (x : Word) : Byte :=
  if a.toNat ≤ 0x7FFF then m x
  else if a = io.dma then
    if 0xFE00 ≤ x.toNat ∧ x.toNat ≤ 0xFE9F then m (wordOf v 0 + (x - 0xFE00#16)) else m x
  else if a = io.div then
    if x = io.div then 0 else m x
  else if a = io.sb then m x
  else if x = a then v else m x

/-- The serial sink's history after the mediated write of `v` to `a`: only R82's SB case appends (R86). -/
def serialAfterStore (io : IoAddr) (out : List Byte) (a : Word) (v : Byte) : List Byte :=
  if a.toNat ≤ 0x7FFF ∨ a = io.dma ∨ a = io.div then out
  else if a = io.sb then out ++ [v] else out

/-- The bytes after the mediated write of the word `v` to `a`: the low byte to `a` first, then the high byte to `a + 1` (R88). -/
def bytesAfterWord (io : IoAddr) (m : Word → Byte) (a v : Word) : Word → Byte :=
  byteAfterStore io (byteAfterStore io m a (loByte v)) (a + 1) (hiByte v)

/-- The serial sink's history after the mediated write of the word `v` to `a` (R86, R88). -/
def serialAfterWord (io : IoAddr) (out : List Byte) (a v : Word) : List Byte :=
  serialAfterStore io (serialAfterStore io out a (loByte v)) (a + 1) (hiByte v)

/-- `t` is `s` with the byte `v` stored to `a` by the mediated layer; the CPU registers may differ. -/
def StoresByte (s t : State) (a : Word) (v : Byte) : Prop :=
  (∀ x : Word, directRead t x = byteAfterStore s.cfg.io (directRead s) a v x)
  ∧ t.serialOut = serialAfterStore s.cfg.io s.serialOut a v ∧ OnlyCpuMemSerial s t

/-- `t` is `s` with the word `v` stored to `a` by the mediated layer; the CPU registers may differ. -/
def StoresWord (s t : State) (a v : Word) : Prop :=
  (∀ x : Word, directRead t x = bytesAfterWord s.cfg.io (directRead s) a v x)
  ∧ t.serialOut = serialAfterWord s.cfg.io s.serialOut a v ∧ OnlyCpuMemSerial s t

/-! ### Encodings -/

/-- The code of a register in the field r8[k] (30_encoding.md R126). -/
def codeR8 : R8 → Nat
  | .b => 0 | .c => 1 | .d => 2 | .e => 3 | .h => 4 | .l => 5 | .a => 7

/-- The code of a pair in the field r16[k] (R127). -/
def codeR16 : R16 → Nat
  | .bc => 0 | .de => 1 | .hl => 2 | .sp => 3

/-- The code of a pair in the field r16stk[k] (R128). -/
def codeR16Stk : R16Stk → Nat
  | .bc => 0 | .de => 1 | .hl => 2 | .af => 3

/-- The code of a condition in the field cc (R129). -/
def codeCond : Cond → Nat
  | .nz => 0 | .z => 1 | .nc => 2 | .c => 3

/-- The code of an ALU operation in the field ooo (R125). -/
def codeAlu : AluOp → Nat
  | .add => 0 | .adc => 1 | .sub => 2 | .sbc => 3 | .and => 4 | .xor => 5 | .or => 6 | .cp => 7

/-- The code of a rotate or shift in the field ooo (R132). -/
def codeShift : ShiftKind → Nat
  | .rlc => 0 | .rrc => 1 | .rl => 2 | .rr => 3 | .sla => 4 | .sra => 5 | .swap => 6 | .srl => 7

/-- A word's two bytes, the low one first (R90). -/
def le16 (v : Word) : List Byte := [loByte v, hiByte v]

/-- `i` is the entry of the opcode byte `op` with the immediate bytes `imm` (whatever follows them), of that length. Its
reference row charges `m` M-cycles when PC is unchanged and `mt` when it is changed, under `PREFIX_CYCLE_SPLIT = split`; under
`both_full` a prefixed entry charges 1 more and an unprefixed one the same (30_encoding.md R132). -/
def Row (i : Instr) (prefixed : Bool) (op : Nat) (imm : List Byte) (m mt : Nat) : Prop :=
  (∀ rest, decode prefixed (BitVec.ofNat 8 op :: (imm ++ rest)) = .ok (i, rest))
  ∧ (descriptor i).length = 1 + imm.length
  ∧ (descriptor i).charged .split false = m ∧ (descriptor i).charged .split true = mt
  ∧ (descriptor i).charged .bothFull false = m + prefixed.toNat ∧ (descriptor i).charged .bothFull true = mt + prefixed.toNat

/-! ### Shapes of instructions -/

/-- The second operand of an 8-bit ALU instruction: a register, (HL), or n8 (42_alu8.md). -/
inductive AluSource where
  | reg (r : R8)
  | atHl
  | imm (n8 : Byte)
deriving DecidableEq, Repr

/-- The instruction of an ALU operation and a second operand. -/
def AluSource.instr (op : AluOp) : AluSource → Instr
  | .reg r => formAluR op r
  | .atHl => formAluAtHl op
  | .imm n8 => formAluN8 op n8

/-- `src8`: the value of the second operand. -/
def AluSource.value (s : State) : AluSource → Byte
  | .reg r => s.r8 r
  | .atHl => directRead s s.cpu.hl
  | .imm n8 => n8

/-- The rows of an ALU operation and a second operand (42_alu8.md). -/
def AluRow (op : AluOp) : AluSource → Prop
  | .reg r => Row (formAluR op r) false (0x80 + 8 * codeAlu op + codeR8 r) [] 1 1
  | .atHl => Row (formAluAtHl op) false (0x86 + 8 * codeAlu op) [] 2 2
  | .imm n8 => Row (formAluN8 op n8) false (0xC6 + 8 * codeAlu op) [n8] 2 2

/-- `i` loads `v` into the 8-bit register `r` and changes nothing else. -/
def LoadsR8 (i : Instr) (s : State) (r : R8) (v : Byte) : Prop :=
  ∃ t, exec i s = .next t ∧ t.r8 r = v ∧ SameR8But s t r ∧ t.regF = s.regF ∧ SameControl s t ∧ StoresNothing s t

/-- `i` stores the byte `v` to `a` and changes no CPU register. -/
def StoresR8 (i : Instr) (s : State) (a : Word) (v : Byte) : Prop :=
  ∃ t, exec i s = .next t ∧ StoresByte s t a v ∧ t.cpu = s.cpu

/-- `i` writes `r` to A and the four flags and changes nothing else. -/
def WritesA (i : Instr) (s : State) (r : Byte) (z n h c : Bool) : Prop :=
  ∃ t, exec i s = .next t ∧ t.regA = r ∧ FlagsAre t z n h c ∧ SameR8But s t .a ∧ SameControl s t ∧ StoresNothing s t

/-- `i` writes the four flags and changes nothing else. -/
def WritesFlags (i : Instr) (s : State) (z n h c : Bool) : Prop :=
  ∃ t, exec i s = .next t ∧ FlagsAre t z n h c ∧ SameR8 s t ∧ SameControl s t ∧ StoresNothing s t

/-- `i` writes `v` to the 8-bit register `r` and the four flags and changes nothing else. -/
def WritesR8 (i : Instr) (s : State) (r : R8) (v : Byte) (z n h c : Bool) : Prop :=
  ∃ t, exec i s = .next t ∧ t.r8 r = v ∧ FlagsAre t z n h c ∧ SameR8But s t r ∧ SameControl s t ∧ StoresNothing s t

/-- `i` stores the byte `v` to the address in HL, writes the four flags, and changes no other register. -/
def WritesAtHl (i : Instr) (s : State) (v : Byte) (z n h c : Bool) : Prop :=
  ∃ t, exec i s = .next t ∧ StoresByte s t s.cpu.hl v ∧ FlagsAre t z n h c ∧ SameR8 s t ∧ SameControl s t

/-- `i` makes the pair `rr` the word `v` and changes nothing else. -/
def LoadsR16 (i : Instr) (s : State) (rr : R16) (v : Word) : Prop :=
  ∃ t, exec i s = .next t ∧ t.r16 rr = v ∧ (∀ x, x ≠ rr → t.r16 x = s.r16 x)
    ∧ t.cpu.af = s.cpu.af ∧ t.cpu.pc = s.cpu.pc ∧ t.cpu.ime = s.cpu.ime ∧ t.cpu.prefixOp = s.cpu.prefixOp
    ∧ StoresNothing s t

/-- `i` makes the CPU registers `c` and changes nothing else. -/
def MakesCpu (i : Instr) (s : State) (c : Cpu) : Prop :=
  ∃ t, exec i s = .next t ∧ t.cpu = c ∧ StoresNothing s t

/-- `i` pushes the word `v` (41_loads.md R200) and sets PC to `target`: SP falls by 2, the word is stored at the new SP, and
nothing else changes. -/
def Pushes (i : Instr) (s : State) (v target : Word) : Prop :=
  ∃ t, exec i s = .next t ∧ StoresWord s t (s.cpu.sp - 2) v ∧ t.cpu = { s.cpu with sp := s.cpu.sp - 2, pc := target }

/-- The word at the top of the stack (R201). -/
def topOfStack (s : State) : Word := wordOf (directRead s (s.cpu.sp + 1)) (directRead s s.cpu.sp)

/-- `i` stores the byte `v` to `a` and makes the CPU registers `c`. -/
def StoresAndMakesCpu (i : Instr) (s : State) (a : Word) (v : Byte) (c : Cpu) : Prop :=
  ∃ t, exec i s = .next t ∧ StoresByte s t a v ∧ t.cpu = c

/-- The condition of `cc` on the flags Z and C (R129). -/
def condHolds (cc : Cond) (z c : Bool) : Bool :=
  match cc with
  | .nz => !z | .z => z | .nc => !c | .c => c

/-- The result of a rotate or shift of the byte `v` with carry `c` before it, in whole numbers (44_rotate_shift_bit.md R290). -/
def shiftedValue (k : ShiftKind) (v c : Nat) : Nat :=
  match k with
  | .rlc => (2 * v + v / 128) % 256
  | .rrc => v / 2 + 128 * (v % 2)
  | .rl => (2 * v + c) % 256
  | .rr => v / 2 + 128 * c
  | .sla => 2 * v % 256
  | .sra => v / 2 + 128 * (v / 128)
  | .swap => 16 * (v % 16) + v / 16
  | .srl => v / 2

/-- The new carry of a rotate or shift (R290). -/
def shiftedCarry (k : ShiftKind) (v : Nat) : Bool :=
  match k with
  | .rlc | .rl | .sla => decide (128 ≤ v)
  | .rrc | .rr | .sra | .srl => decide (v % 2 = 1)
  | .swap => false

/-- Whether the instruction is one of the eleven undefined bytes (30_encoding.md R133). -/
def isUndefined (i : Instr) : Bool := undefinedForms.contains i

/-- A flag's new value agrees with its letter of the flag mask (R138). -/
def flagAllows (e : FlagEffect) (before after : Bool) : Prop :=
  match e with
  | .kept => after = before
  | .zero => after = false
  | .one => after = true
  | .result => True

/-- The entries that write PC after the engine's advance: the control transfers of 45_control.md (10_state.md R32), and HALT
under `HALT_POLICY = spin` (46_system.md R341). -/
def WritesPc (i : Instr) : Prop :=
  (∃ n16, i = .jpN16 n16) ∨ (∃ cc n16, i = formJpCc cc n16) ∨ i = .jpHl ∨ (∃ e8, i = .jrE8 e8) ∨ (∃ cc e8, i = formJrCc cc e8)
  ∨ (∃ n16, i = .callN16 n16) ∨ (∃ cc n16, i = formCallCc cc n16) ∨ i = .ret ∨ (∃ cc, i = formRetCc cc) ∨ i = .reti
  ∨ (∃ k, i = formRst k) ∨ i = .halt

/-- The entries that write SP: R32's list. -/
def WritesSp (i : Instr) : Prop :=
  (∃ n16, i = .ldSpN16 n16) ∨ i = .ldSpHl ∨ i = .incSp ∨ i = .decSp ∨ (∃ e8, i = .addSpE8 e8)
  ∨ (∃ rr, i = formPush rr) ∨ (∃ rr, i = formPop rr) ∨ (∃ n16, i = .callN16 n16) ∨ (∃ cc n16, i = formCallCc cc n16)
  ∨ i = .ret ∨ (∃ cc, i = formRetCc cc) ∨ i = .reti ∨ (∃ k, i = formRst k)

/-! ### Devices -/

/-- The TIMA period of a TAC byte, in cycles (10_state.md R58). -/
def periodOfTac (tac : Byte) : Int :=
  let r := tac.toNat % 4
  if r = 0 then 1024 else if r = 1 then 16 else if r = 2 then 64 else 256

/-- The poll runs (40_cpu_engine.md R161). -/
def Polls (s : State) : Prop := s.cpu.ime = true ∧ (s.cpu.prefixOp = false ∨ s.cfg.pollMidPrefix = true)

/-- Source `k` is enabled and pending (60_exceptions.md R401). -/
def Requested (s : State) (k : Nat) : Prop :=
  (directRead s s.cfg.io.ieReg).getLsbD k = true ∧ (directRead s s.cfg.io.ifReg).getLsbD k = true

/-- How many lines an advance of `c` dots completes (R443). -/
def linesCrossed (s : State) (c : Nat) : Nat :=
  match s.cfg.lineWrap with
  | .subtract => (s.lcd.scanlineCycles + c) / 456
  | .zero => min 1 ((s.lcd.scanlineCycles + c) / 456)

/-- The dot counter after an advance of `c` dots (R443). -/
def dotsAfter (s : State) (c : Nat) : Nat :=
  match s.cfg.lineWrap with
  | .subtract => (s.lcd.scanlineCycles + c) % 456
  | .zero => if s.lcd.scanlineCycles + c < 456 then s.lcd.scanlineCycles + c else 0

/-- The byte at a natural address. -/
def byteAt (s : State) (a : Nat) : Byte := directRead s (BitVec.ofNat 16 a)

/-- The background colour id of pixel (x, y), in whole numbers (R451, R452). -/
def backgroundId (s : State) (x y : Nat) : Nat :=
  let lcdc := directRead s s.cfg.io.lcdc
  if lcdc.getLsbD 0 = false then 0
  else
    let sx := if s.cfg.bgScroll then (x + (directRead s s.cfg.io.scx).toNat) % 256 else x
    let sy := if s.cfg.bgScroll then (y + (directRead s s.cfg.io.scy).toNat) % 256 else y
    let idx := byteAt s ((if lcdc.getLsbD 3 then 0x9C00 else 0x9800) + 32 * (sy / 8) + sx / 8)
    let tile : Int := if lcdc.getLsbD 4 then 0x8000 + 16 * (idx.toNat : Int) else 0x9000 + 16 * idx.toInt
    let row := tile.toNat + 2 * (sy % 8)
    2 * ((byteAt s (row + 1)).getLsbD (7 - sx % 8)).toNat + ((byteAt s row).getLsbD (7 - sx % 8)).toNat

/-- `SHADE[id]` of a colour id 0..3 (R456). -/
def shadeLevel (v : Shade) (id : Nat) : Byte :=
  if id = 0 then v.id0 else if id = 1 then v.id1 else if id = 2 then v.id2 else v.id3

/-- OAM entry `i` intersects line y: `Y_i - 16 ≤ y < Y_i - 16 + h` in integers (R453). -/
def intersects (s : State) (y i : Nat) : Bool :=
  let h := if (directRead s s.cfg.io.lcdc).getLsbD 2 then 16 else 8
  decide ((byteAt s (0xFE00 + 4 * i)).toNat ≤ y + 16) && decide (y + 16 < (byteAt s (0xFE00 + 4 * i)).toNat + h)

/-- The selected OAM entries of line y: the first ten that intersect it, in OAM order, none while LCDC[1] = 0 (R453). -/
def selectedSprites (s : State) (y : Nat) : List Nat :=
  if (directRead s s.cfg.io.lcdc).getLsbD 1 then
    (List.range 40).filter (fun i => intersects s y i && decide (((List.range i).filter (intersects s y)).length < 10))
  else []

/-- The colour id OAM entry `i` gives pixel (x, y), 0 where it has no pixel or a transparent one (R454). -/
def spriteId (s : State) (x y i : Nat) : Nat :=
  let h := if (directRead s s.cfg.io.lcdc).getLsbD 2 then 16 else 8
  let entry := 0xFE00 + 4 * i
  let sy := (byteAt s entry).toNat
  let sx := (byteAt s (entry + 1)).toNat
  let attr := byteAt s (entry + 3)
  if x + 8 < sx ∨ sx + 8 ≤ x + 8 then 0
  else
    let row := if s.cfg.spriteFlips && attr.getLsbD 6 then h - 1 - (y + 16 - sy) else y + 16 - sy
    let tile := if h = 16 then 2 * ((byteAt s (entry + 2)).toNat / 2) else (byteAt s (entry + 2)).toNat
    let a := 0x8000 + 16 * tile + 2 * row
    let col := x + 8 - sx
    let b := if s.cfg.spriteFlips && attr.getLsbD 5 then col else 7 - col
    2 * ((byteAt s (a + 1)).getLsbD b).toNat + ((byteAt s a).getLsbD b).toNat

/-- Push a state changed by `f i` at each of `n` frames (R471): `f i` is what the machine did before push number `i`. -/
def pushMany (f : Nat → State → State) : Nat → State → State
  | 0, s => s
  | n + 1, s => pushSaveState (f n (pushMany f n s))

/-- Pop `n` times (R472). -/
def popMany : Nat → State → State
  | 0, s => s
  | n + 1, s => popSaveState (popMany n s)

end Sys2Proof.Machine
end

