-- ==== Sys2Proof/Certificates/Slice0/Obligations.lean ====
section
/-!
DEFINITION. The statements for the provers. Each instruction-family statement says, for every operand: the row (opcode, length,
M-cycles), that the instruction completes, its result, its flags, and its frame.
-/

open Sys2Proof Sys2Proof.Machine

/-! ### Decoding and the step -/

/-- Tier 3. Decoding the encoding of any instruction gives it back, with every operand, whatever bytes follow: as a table entry
(R121, R122), and as a whole instruction for all but the escape entry, which is the first byte of every prefixed one (R124). -/
def Obligations.DecodeOfEncodeIsTheInstruction : Prop :=
  ∀ (i : Instr) (rest : List Byte),
    decode (encodeEntry i).prefixed ((encodeEntry i).bytes ++ rest) = .ok (i, rest)
    ∧ (encodeEntry i).bytes.length = (descriptor i).length
    ∧ (i ≠ .prefixCb → decodeWord (encode i ++ rest) = .ok (i, rest))

/-- Tier 2. Each list of bytes has one meaning: what the decoder reads, encoded, is exactly the bytes it took. -/
def Obligations.EncodeOfDecodeIsTheBytes : Prop :=
  ∀ (p : Bool) (bytes rest : List Byte) (i : Instr),
    decode p bytes = .ok (i, rest) → (encodeEntry i).prefixed = p ∧ bytes = (encodeEntry i).bytes ++ rest

/-- Tier 1. Words written out from the maps of R125 and R132 decode to their instructions. -/
def Obligations.WrittenOutWordsDecode : Prop :=
  decodeWord [0x78] = .ok (.ldAB, []) ∧ decodeWord [0x08, 0x34, 0x12] = .ok (.ldAtN16Sp 0x1234, [])
  ∧ decodeWord [0x9E] = .ok (.sbcAAtHl, []) ∧ decodeWord [0xFE, 0x40] = .ok (.cpAN8 0x40, [])
  ∧ decodeWord [0x39] = .ok (.addHlSp, []) ∧ decodeWord [0x20, 0xFC] = .ok (.jrNzE8 0xFC, [])
  ∧ decodeWord [0xDC, 0x00, 0xC8] = .ok (.callCN16 0xC800, []) ∧ decodeWord [0xEF] = .ok (.rst28, [])
  ∧ decodeWord [0xCB, 0x37] = .ok (.swapA, []) ∧ decodeWord [0xCB, 0x65] = .ok (.bit4L, [])
  ∧ decodeWord [0xCB, 0xCB] = .ok (.set1E, []) ∧ decodeWord [0x10, 0xCB, 0x37] = .ok (.stop 0xCB, [0x37])
  ∧ decodeWord [0xED] = .ok (.undefinedED, [])

/-- Tier 1. A step inside a batch whose poll takes no interrupt runs the instruction that the bytes at PC decode to, where TABLE
has its reference entry: from the state with the joypad sampled, PREFIX cleared, PC advanced and pc0 at the opcode (R163, R164);
then the break flag of R348, the timer advance and then the PPU advance, both with the cycles of the row (R167, R170), the
breakpoint check (R171), the slot (R173), and the end of the frame when the batch is used up (R172). Where the instruction has no
next state, neither has the step (R346). -/
def Obligations.StepRunsTheDecodedInstruction : Prop :=
  ∀ (s : State) (i : Instr) (rest : List Byte),
    let b := beginIteration s
    let row := descriptor i
    let after := b.cpu.pc + BitVec.ofNat 16 row.length
    let before := ((b.setPrefixOp false).setPc after).setPc0 b.cpu.pc
    s.inBatch = true → selectedSource b = none → (∀ e ∈ s.cfg.table, e.1 ≠ tableIndex i) → i.wellFormed = true →
    decode b.cpu.prefixOp [directRead b b.cpu.pc, directRead b (b.cpu.pc + 1), directRead b (b.cpu.pc + 2)]
      = .ok (i, rest) →
    (∀ t, exec i before = .next t →
      let cost := 4 * row.charged s.cfg.prefixCycleSplit (decide (t.cpu.pc ≠ after))
      let raised := if tableIndex i ∈ s.cfg.breakOpcodes then t.setBreakFlag true else t
      let u := countSlot (breakpointCheck (ppuAdvance (timerAdvance raised cost) cost)) (!t.cpu.prefixOp)
      step s = .next (if batchEnds u then endFrame u else u))
    ∧ (∀ r, exec i before = .fault r → step s = .fault r)

/-- Tier 1. A step inside a batch whose poll selects a source takes that interrupt and runs no instruction: its IF bit is cleared
and the interrupt taken (R403), then the timer advance and then the PPU advance, both with 20 cycles (R170), the breakpoint check
(R171), one slot (R173), and the end of the frame when the batch is used up (R172). -/
def Obligations.StepTakesTheSelectedInterrupt : Prop :=
  ∀ (s : State) (k : Nat), s.inBatch = true → selectedSource (beginIteration s) = some k →
    let taken := takeInterrupt (ifClear (beginIteration s) k) k
    let u := countSlot (breakpointCheck (ppuAdvance (timerAdvance taken 20) 20)) true
    step s = .next (if batchEnds u then endFrame u else u)

/-! ### Loads, stores and the stack -/

/-- Tier 2. LD r,r'; LD r,n8; LD r,(HL); LD (HL),r; LD (HL),n8. -/
def Obligations.LoadsAndStoresOfR8AndHl : Prop :=
  ∀ (s : State) (dst r : R8) (n8 : Byte),
    (Row (formLdRR dst r) false (0x40 + 8 * codeR8 dst + codeR8 r) [] 1 1 ∧ LoadsR8 (formLdRR dst r) s dst (s.r8 r))
    ∧ (Row (formLdRN8 dst n8) false (0x06 + 8 * codeR8 dst) [n8] 2 2 ∧ LoadsR8 (formLdRN8 dst n8) s dst n8)
    ∧ (Row (formLdRAtHl dst) false (0x46 + 8 * codeR8 dst) [] 2 2
      ∧ LoadsR8 (formLdRAtHl dst) s dst (directRead s s.cpu.hl))
    ∧ (Row (formLdAtHlR r) false (0x70 + codeR8 r) [] 2 2 ∧ StoresR8 (formLdAtHlR r) s s.cpu.hl (s.r8 r))
    ∧ (Row (.ldAtHlN8 n8) false 0x36 [n8] 3 3 ∧ StoresR8 (.ldAtHlN8 n8) s s.cpu.hl n8)

/-- Tier 1. The accumulator's indirect loads: LD A,(BC), (DE), (n16); LDH A,(C), (n8). -/
def Obligations.AccumulatorLoads : Prop :=
  ∀ (s : State) (n8 : Byte) (n16 : Word),
    (Row .ldAAtBc false 0x0A [] 2 2 ∧ LoadsR8 .ldAAtBc s .a (directRead s s.cpu.bc))
    ∧ (Row .ldAAtDe false 0x1A [] 2 2 ∧ LoadsR8 .ldAAtDe s .a (directRead s s.cpu.de))
    ∧ (Row (.ldAAtN16 n16) false 0xFA (le16 n16) 4 4 ∧ LoadsR8 (.ldAAtN16 n16) s .a (directRead s n16))
    ∧ (Row .ldhAAtC false 0xF2 [] 2 2 ∧ LoadsR8 .ldhAAtC s .a (byteAt s (0xFF00 + (s.r8 .c).toNat)))
    ∧ (Row (.ldhAAtN8 n8) false 0xF0 [n8] 3 3 ∧ LoadsR8 (.ldhAAtN8 n8) s .a (byteAt s (0xFF00 + n8.toNat)))

/-- Tier 1. The accumulator's indirect stores: LD (BC),A, (DE), (n16); LDH (C),A, (n8). -/
def Obligations.AccumulatorStores : Prop :=
  ∀ (s : State) (n8 : Byte) (n16 : Word),
    (Row .ldAtBcA false 0x02 [] 2 2 ∧ StoresR8 .ldAtBcA s s.cpu.bc s.regA)
    ∧ (Row .ldAtDeA false 0x12 [] 2 2 ∧ StoresR8 .ldAtDeA s s.cpu.de s.regA)
    ∧ (Row (.ldAtN16A n16) false 0xEA (le16 n16) 4 4 ∧ StoresR8 (.ldAtN16A n16) s n16 s.regA)
    ∧ (Row .ldhAtCA false 0xE2 [] 2 2 ∧ StoresR8 .ldhAtCA s (BitVec.ofNat 16 (0xFF00 + (s.r8 .c).toNat)) s.regA)
    ∧ (Row (.ldhAtN8A n8) false 0xE0 [n8] 3 3
      ∧ StoresR8 (.ldhAtN8A n8) s (BitVec.ofNat 16 (0xFF00 + n8.toNat)) s.regA)

/-- Tier 1. LD A,(HL+), LD A,(HL-), LD (HL+),A, LD (HL-),A: HL moves after the access, and no flag is written. -/
def Obligations.AccumulatorLoadsAndStoresThatMoveHl : Prop :=
  ∀ s : State,
    (Row .ldAAtHlInc false 0x2A [] 2 2
      ∧ MakesCpu .ldAAtHlInc s { s.cpu with af := wordOf (directRead s s.cpu.hl) s.regF, hl := s.cpu.hl + 1 })
    ∧ (Row .ldAAtHlDec false 0x3A [] 2 2
      ∧ MakesCpu .ldAAtHlDec s { s.cpu with af := wordOf (directRead s s.cpu.hl) s.regF, hl := s.cpu.hl - 1 })
    ∧ (Row .ldAtHlIncA false 0x22 [] 2 2
      ∧ StoresAndMakesCpu .ldAtHlIncA s s.cpu.hl s.regA { s.cpu with hl := s.cpu.hl + 1 })
    ∧ (Row .ldAtHlDecA false 0x32 [] 2 2
      ∧ StoresAndMakesCpu .ldAtHlDecA s s.cpu.hl s.regA { s.cpu with hl := s.cpu.hl - 1 })

/-- Tier 2. LD rr,n16; LD (n16),SP (each byte by its own case of the write dispatch); LD SP,HL. -/
def Obligations.Loads16 : Prop :=
  ∀ (s : State) (rr : R16) (n16 : Word),
    (Row (formLdRrN16 rr n16) false (0x01 + 16 * codeR16 rr) (le16 n16) 3 3 ∧ LoadsR16 (formLdRrN16 rr n16) s rr n16)
    ∧ (Row (.ldAtN16Sp n16) false 0x08 (le16 n16) 5 5
      ∧ ∃ t, exec (.ldAtN16Sp n16) s = .next t ∧ StoresWord s t n16 s.cpu.sp ∧ t.cpu = s.cpu)
    ∧ (Row .ldSpHl false 0xF9 [] 2 2 ∧ LoadsR16 .ldSpHl s .sp s.cpu.hl)

/-- Tier 2. POP rr, POP AF, PUSH rr. A pop reads the low byte at SP and the high byte at SP + 1 and adds 2 to SP; POP AF keeps
F[3:0] = 0. A push takes 2 from SP and stores the pair at the new SP, low byte first. -/
def Obligations.PushAndPop : Prop :=
  ∀ (s : State) (rr : R16Stk),
    (Row (formPop rr) false (0xC1 + 16 * codeR16Stk rr) [] 3 3
      ∧ ∃ t, exec (formPop rr) s = .next t
        ∧ (rr ≠ .af → t.r16Stk rr = topOfStack s)
        ∧ (rr = .af → t.regA = hiByte (topOfStack s)
          ∧ FlagsAre t ((loByte (topOfStack s)).getLsbD 7) ((loByte (topOfStack s)).getLsbD 6)
            ((loByte (topOfStack s)).getLsbD 5) ((loByte (topOfStack s)).getLsbD 4))
        ∧ (∀ x, x ≠ rr → t.r16Stk x = s.r16Stk x)
        ∧ t.cpu.sp = s.cpu.sp + 2 ∧ t.cpu.pc = s.cpu.pc ∧ t.cpu.ime = s.cpu.ime ∧ t.cpu.prefixOp = s.cpu.prefixOp
        ∧ StoresNothing s t)
    ∧ (Row (formPush rr) false (0xC5 + 16 * codeR16Stk rr) [] 4 4 ∧ Pushes (formPush rr) s (s.r16Stk rr) s.cpu.pc)

/-! ### 8-bit arithmetic and logic -/

/-- Tier 2. ADD A and ADC A with a register, (HL) and n8: the sum, and the flags Z, N, H, C of R240. -/
def Obligations.AddAndAdc : Prop :=
  ∀ (s : State) (src : AluSource),
    let a := s.regA.toNat
    let b := (src.value s).toNat
    let c := s.cf.toNat
    (AluRow .add src ∧ WritesA (src.instr .add) s (BitVec.ofNat 8 (a + b))
      (decide ((a + b) % 256 = 0)) false (decide (15 < a % 16 + b % 16)) (decide (255 < a + b)))
    ∧ (AluRow .adc src ∧ WritesA (src.instr .adc) s (BitVec.ofNat 8 (a + b + c))
      (decide ((a + b + c) % 256 = 0)) false (decide (15 < a % 16 + b % 16 + c)) (decide (255 < a + b + c)))

/-- Tier 2. SUB A and SBC A with a register, (HL) and n8: the difference, and the flags of R241. -/
def Obligations.SubAndSbc : Prop :=
  ∀ (s : State) (src : AluSource),
    let a := s.regA.toNat
    let b := (src.value s).toNat
    let c := s.cf.toNat
    (AluRow .sub src ∧ WritesA (src.instr .sub) s (BitVec.ofInt 8 ((a : Int) - b))
      (decide (a = b)) true (decide (a % 16 < b % 16)) (decide (a < b)))
    ∧ (AluRow .sbc src ∧ WritesA (src.instr .sbc) s (BitVec.ofInt 8 ((a : Int) - b - c))
      (decide (((a : Int) - b - c) % 256 = 0)) true (decide (a % 16 < b % 16 + c)) (decide (a < b + c)))

/-- Tier 2. AND A, XOR A and OR A with a register, (HL) and n8, with the flags of R242. -/
def Obligations.AndXorOr : Prop :=
  ∀ (s : State) (src : AluSource),
    let a := s.regA
    let b := src.value s
    (AluRow .and src ∧ WritesA (src.instr .and) s (a &&& b) (decide (a &&& b = 0)) false true false)
    ∧ (AluRow .xor src ∧ WritesA (src.instr .xor) s (a ^^^ b) (decide (a ^^^ b = 0)) false false false)
    ∧ (AluRow .or src ∧ WritesA (src.instr .or) s (a ||| b) (decide (a ||| b = 0)) false false false)

/-- Tier 2. CP A with a register, (HL) and n8: the flags of the subtraction, and A is not written. -/
def Obligations.Compare : Prop :=
  ∀ (s : State) (src : AluSource),
    let a := s.regA.toNat
    let b := (src.value s).toNat
    AluRow .cp src
    ∧ WritesFlags (src.instr .cp) s (decide (a = b)) true (decide (a % 16 < b % 16)) (decide (a < b))

/-- Tier 2. INC r and DEC r: C is unchanged, and F[3:0] becomes 0 (R34; for an instruction that writes only some flags
the model's deduction, log 12). -/
def Obligations.IncAndDecOfRegisters : Prop :=
  ∀ (s : State) (r : R8),
    let v := s.r8 r
    (Row (formIncR r) false (0x04 + 8 * codeR8 r) [] 1 1
      ∧ WritesR8 (formIncR r) s r (v + 1) (decide (v.toNat = 255)) false (decide (v.toNat % 16 = 15)) s.cf)
    ∧ (Row (formDecR r) false (0x05 + 8 * codeR8 r) [] 1 1
      ∧ WritesR8 (formDecR r) s r (v - 1) (decide (v.toNat = 1)) true (decide (v.toNat % 16 = 0)) s.cf)

/-- Tier 1. INC (HL) and DEC (HL): the result is stored by the write dispatch (dropped in ROM, 0 at DIV, a transfer at DMA), the
flags are those of the computed result, C is unchanged, and F[3:0] becomes 0 (R34; for an instruction that writes only some
flags the model's deduction, log 12). -/
def Obligations.IncAndDecAtHl : Prop :=
  ∀ s : State,
    let v := directRead s s.cpu.hl
    (Row .incAtHl false 0x34 [] 3 3
      ∧ WritesAtHl .incAtHl s (v + 1) (decide (v.toNat = 255)) false (decide (v.toNat % 16 = 15)) s.cf)
    ∧ (Row .decAtHl false 0x35 [] 3 3
      ∧ WritesAtHl .decAtHl s (v - 1) (decide (v.toNat = 1)) true (decide (v.toNat % 16 = 0)) s.cf)

/-- Tier 2. DAA: the corrections of R271 and its flags, for every A and every flags; N is unchanged, and F[3:0] becomes 0
(R34; for an instruction that writes only some flags the model's deduction, log 12). -/
def Obligations.DecimalAdjust : Prop :=
  ∀ s : State,
    let a := s.regA.toNat
    let high := s.cf || (!s.nf && decide (0x99 < a))
    let low := s.hf || (!s.nf && decide (9 < a % 16))
    let correction : Int := (if high then 0x60 else 0) + (if low then 0x06 else 0)
    let r := BitVec.ofInt 8 (if s.nf then (a : Int) - correction else a + correction)
    Row .daa false 0x27 [] 1 1 ∧ WritesA .daa s r (decide (r = 0)) s.nf false high

/-- Tier 1. Derived from R240 and R271: ADD A,b and then DAA add two packed decimal numbers, the carry being that of the
decimal sum. -/
def Obligations.DaaAfterAddIsTheDecimalSum : Prop :=
  ∀ x y : Nat, x < 100 → y < 100 →
    let bcd := fun n : Nat => BitVec.ofNat 8 (16 * (n / 10) + n % 10)
    let sum := add8 (bcd x) (bcd y) false
    (daa8 sum.1 sum.2).1 = bcd ((x + y) % 100) ∧ (daa8 sum.1 sum.2).2.c = decide (100 ≤ x + y)

/-- Tier 1. CPL, SCF, CCF: the flags they do not name are unchanged, and F[3:0] becomes 0 (R34; for an instruction that
writes only some flags the model's deduction, log 12). -/
def Obligations.ComplementAndCarry : Prop :=
  ∀ s : State,
    (Row .cpl false 0x2F [] 1 1 ∧ WritesA .cpl s (~~~s.regA) s.zf true true s.cf)
    ∧ (Row .scf false 0x37 [] 1 1 ∧ WritesFlags .scf s s.zf false false true)
    ∧ (Row .ccf false 0x3F [] 1 1 ∧ WritesFlags .ccf s s.zf false false (!s.cf))

/-- Tier 2. Derived laws (R275): CP sets F as SUB would; SUB undoes ADD; XOR A,A gives A = 0 and F = 0x80; INC r undoes
DEC r. -/
def Obligations.LawsOf8BitArithmetic : Prop :=
  ∀ (s : State) (src : AluSource) (r : R8) (n8 : Byte),
    (∀ t u, exec (src.instr .cp) s = .next t → exec (src.instr .sub) s = .next u → t.regF = u.regF ∧ t.regA = s.regA)
    ∧ (∀ t u, exec (.addAN8 n8) s = .next t → exec (.subAN8 n8) t = .next u → u.regA = s.regA)
    ∧ (∀ t, exec .xorAA s = .next t → t.regA = 0 ∧ t.regF = 0x80)
    ∧ (∀ t u, exec (formDecR r) s = .next t → exec (formIncR r) t = .next u → u.r8 r = s.r8 r)

/-! ### 16-bit arithmetic -/

/-- Tier 2. INC rr and DEC rr: modulo 2^16, and no flag is written. -/
def Obligations.IncAndDecOfPairs : Prop :=
  ∀ (s : State) (rr : R16),
    (Row (formIncRr rr) false (0x03 + 16 * codeR16 rr) [] 2 2 ∧ LoadsR16 (formIncRr rr) s rr (s.r16 rr + 1))
    ∧ (Row (formDecRr rr) false (0x0B + 16 * codeR16 rr) [] 2 2 ∧ LoadsR16 (formDecRr rr) s rr (s.r16 rr - 1))

/-- Tier 2. ADD HL,rr: Z unchanged, H the carry out of bit 11, C the carry out of bit 15, and F[3:0] becomes 0 (R34; for an
instruction that writes only some flags the model's deduction, log 12). -/
def Obligations.AddToHl : Prop :=
  ∀ (s : State) (rr : R16),
    let a := s.cpu.hl.toNat
    let b := (s.r16 rr).toNat
    Row (formAddHlRr rr) false (0x09 + 16 * codeR16 rr) [] 2 2
    ∧ ∃ t, exec (formAddHlRr rr) s = .next t ∧ t.cpu.hl = BitVec.ofNat 16 (a + b)
      ∧ FlagsAre t s.zf false (decide (4095 < a % 4096 + b % 4096)) (decide (65535 < a + b))
      ∧ t.regA = s.regA ∧ t.cpu.bc = s.cpu.bc ∧ t.cpu.de = s.cpu.de ∧ SameControl s t ∧ StoresNothing s t

/-- Tier 2. ADD SP,e8 and LD HL,SP+e8: the displacement is signed, H and C come from the unsigned addition of SP's low byte and
the displacement byte, Z and N are 0 (R280). -/
def Obligations.StackPointerPlusDisplacement : Prop :=
  ∀ (s : State) (e8 : Byte),
    let sp := s.cpu.sp.toNat
    let u := e8.toNat
    let r := BitVec.ofInt 16 ((sp : Int) + e8.toInt)
    let h := decide (15 < sp % 16 + u % 16)
    let c := decide (255 < sp % 256 + u)
    (Row (.addSpE8 e8) false 0xE8 [e8] 4 4
      ∧ ∃ t, exec (.addSpE8 e8) s = .next t ∧ t.cpu.sp = r ∧ FlagsAre t false false h c ∧ SameR8 s t
        ∧ t.cpu.pc = s.cpu.pc ∧ t.cpu.ime = s.cpu.ime ∧ t.cpu.prefixOp = s.cpu.prefixOp ∧ StoresNothing s t)
    ∧ (Row (.ldHlSpE8 e8) false 0xF8 [e8] 3 3
      ∧ ∃ t, exec (.ldHlSpE8 e8) s = .next t ∧ t.cpu.hl = r ∧ FlagsAre t false false h c ∧ t.regA = s.regA
        ∧ t.cpu.bc = s.cpu.bc ∧ t.cpu.de = s.cpu.de ∧ SameControl s t ∧ StoresNothing s t)

/-! ### Rotates, shifts and bits -/

/-- Tier 1. RLCA, RRCA, RLA, RRA: Z is 0 whatever the result. -/
def Obligations.AccumulatorRotates : Prop :=
  ∀ s : State,
    let rotates := fun (i : Instr) (op : Nat) (k : ShiftKind) =>
      Row i false op [] 1 1
      ∧ WritesA i s (BitVec.ofNat 8 (shiftedValue k s.regA.toNat s.cf.toNat)) false false false
        (shiftedCarry k s.regA.toNat)
    rotates .rlca 0x07 .rlc ∧ rotates .rrca 0x0F .rrc ∧ rotates .rla 0x17 .rl ∧ rotates .rra 0x1F .rr

/-- Tier 2. The prefixed rotates, shifts and SWAP of a register: the result and carry of R290, Z from the result, N = H = 0. -/
def Obligations.PrefixedShiftsOfRegisters : Prop :=
  ∀ (s : State) (k : ShiftKind) (r : R8),
    let w := shiftedValue k (s.r8 r).toNat s.cf.toNat
    Row (formShiftR k r) true (8 * codeShift k + codeR8 r) [] 1 1
    ∧ WritesR8 (formShiftR k r) s r (BitVec.ofNat 8 w) (decide (w = 0)) false false (shiftedCarry k (s.r8 r).toNat)

/-- Tier 2. The prefixed rotates, shifts and SWAP of the byte at HL: the result is stored by the write dispatch, the flags are
those of the computed result. -/
def Obligations.PrefixedShiftsAtHl : Prop :=
  ∀ (s : State) (k : ShiftKind),
    let v := (directRead s s.cpu.hl).toNat
    let w := shiftedValue k v s.cf.toNat
    Row (formShiftAtHl k) true (8 * codeShift k + 6) [] 3 3
    ∧ WritesAtHl (formShiftAtHl k) s (BitVec.ofNat 8 w) (decide (w = 0)) false false (shiftedCarry k v)

/-- Tier 2. BIT b,r and BIT b,(HL): Z is the complement of the bit, C is unchanged, and F[3:0] becomes 0 (R34; for an
instruction that writes only some flags the model's deduction, log 12); nothing else is written. -/
def Obligations.BitTests : Prop :=
  ∀ (s : State) (b : Bit3) (r : R8),
    (Row (formBitR b r) true (0x40 + 8 * bitNumber b + codeR8 r) [] 1 1
      ∧ WritesFlags (formBitR b r) s (!(s.r8 r).toNat.testBit (bitNumber b)) false true s.cf)
    ∧ (Row (formBitAtHl b) true (0x46 + 8 * bitNumber b) [] 2 2
      ∧ WritesFlags (formBitAtHl b) s (!(directRead s s.cpu.hl).toNat.testBit (bitNumber b)) false true s.cf)

/-- Tier 2. RES and SET on a register and on (HL): one bit changes, no flag does. -/
def Obligations.BitResetsAndSets : Prop :=
  ∀ (s : State) (b : Bit3) (r : R8),
    let p := 2 ^ bitNumber b
    let cleared := fun v : Byte => BitVec.ofNat 8 (v.toNat - p * (v.toNat / p % 2))
    let set := fun v : Byte => BitVec.ofNat 8 (v.toNat + p * (1 - v.toNat / p % 2))
    (Row (formResR b r) true (0x80 + 8 * bitNumber b + codeR8 r) [] 1 1
      ∧ LoadsR8 (formResR b r) s r (cleared (s.r8 r)))
    ∧ (Row (formResAtHl b) true (0x86 + 8 * bitNumber b) [] 3 3
      ∧ StoresR8 (formResAtHl b) s s.cpu.hl (cleared (directRead s s.cpu.hl)))
    ∧ (Row (formSetR b r) true (0xC0 + 8 * bitNumber b + codeR8 r) [] 1 1
      ∧ LoadsR8 (formSetR b r) s r (set (s.r8 r)))
    ∧ (Row (formSetAtHl b) true (0xC6 + 8 * bitNumber b) [] 3 3
      ∧ StoresR8 (formSetAtHl b) s s.cpu.hl (set (directRead s s.cpu.hl)))

/-! ### Control transfers -/

/-- Tier 2. JP n16, JP cc,n16, JP HL, JR e8, JR cc,e8: only PC changes; a relative target is the post-fetch PC plus the signed
displacement modulo 2^16. -/
def Obligations.Jumps : Prop :=
  ∀ (s : State) (cc : Cond) (n16 : Word) (e8 : Byte),
    let relative := BitVec.ofInt 16 ((s.cpu.pc.toNat : Int) + e8.toInt)
    let taken := condHolds cc s.zf s.cf
    (Row (.jpN16 n16) false 0xC3 (le16 n16) 4 4 ∧ MakesCpu (.jpN16 n16) s { s.cpu with pc := n16 })
    ∧ (Row (formJpCc cc n16) false (0xC2 + 8 * codeCond cc) (le16 n16) 3 4
      ∧ MakesCpu (formJpCc cc n16) s { s.cpu with pc := if taken then n16 else s.cpu.pc })
    ∧ (Row .jpHl false 0xE9 [] 1 1 ∧ MakesCpu .jpHl s { s.cpu with pc := s.cpu.hl })
    ∧ (Row (.jrE8 e8) false 0x18 [e8] 3 3 ∧ MakesCpu (.jrE8 e8) s { s.cpu with pc := relative })
    ∧ (Row (formJrCc cc e8) false (0x20 + 8 * codeCond cc) [e8] 2 3
      ∧ MakesCpu (formJrCc cc e8) s { s.cpu with pc := if taken then relative else s.cpu.pc })

/-- Tier 2. CALL n16, CALL cc,n16, RST t: the post-fetch PC is pushed and PC becomes the target; a call whose condition fails
changes nothing. -/
def Obligations.Calls : Prop :=
  ∀ (s : State) (cc : Cond) (n16 : Word) (k : Bit3),
    (Row (.callN16 n16) false 0xCD (le16 n16) 6 6 ∧ Pushes (.callN16 n16) s s.cpu.pc n16)
    ∧ Row (formCallCc cc n16) false (0xC4 + 8 * codeCond cc) (le16 n16) 3 6
    ∧ (condHolds cc s.zf s.cf = true → Pushes (formCallCc cc n16) s s.cpu.pc n16)
    ∧ (condHolds cc s.zf s.cf = false → MakesCpu (formCallCc cc n16) s s.cpu)
    ∧ (Row (formRst k) false (0xC7 + 8 * bitNumber k) [] 4 4
      ∧ Pushes (formRst k) s s.cpu.pc (BitVec.ofNat 16 (8 * bitNumber k)))

/-- Tier 2. RET, RET cc, RETI: PC is the word at the top of the stack and SP moves by 2; RETI enables interrupts at once. -/
def Obligations.Returns : Prop :=
  ∀ (s : State) (cc : Cond),
    let returned := { s.cpu with pc := topOfStack s, sp := s.cpu.sp + 2 }
    (Row .ret false 0xC9 [] 4 4 ∧ MakesCpu .ret s returned)
    ∧ (Row (formRetCc cc) false (0xC0 + 8 * codeCond cc) [] 2 5
      ∧ MakesCpu (formRetCc cc) s (if condHolds cc s.zf s.cf then returned else s.cpu))
    ∧ (Row .reti false 0xD9 [] 4 4 ∧ MakesCpu .reti s { returned with ime := true })

/-! ### System entries -/

/-- Tier 1. NOP and STOP (whose operand may be any byte) have no effect; DI and EI write IME at once; 0xCB sets PREFIX
(R340, R342 to R345). -/
def Obligations.NopStopDiEiPrefix : Prop :=
  ∀ (s : State) (n8 : Byte),
    (Row .nop false 0x00 [] 1 1 ∧ MakesCpu .nop s s.cpu)
    ∧ (Row (.stop n8) false 0x10 [n8] 1 1 ∧ MakesCpu (.stop n8) s s.cpu)
    ∧ (Row .di false 0xF3 [] 1 1 ∧ MakesCpu .di s { s.cpu with ime := false })
    ∧ (Row .ei false 0xFB [] 1 1 ∧ MakesCpu .ei s { s.cpu with ime := true })
    ∧ (Row .prefixCb false 0xCB [] 1 1 ∧ MakesCpu .prefixCb s { s.cpu with prefixOp := true })

/-- Tier 2. HALT by policy: `nop` has no effect; `spin` goes back to pc0, the address the HALT was fetched from, while no enabled
source is pending. -/
def Obligations.HaltByPolicy : Prop :=
  ∀ s : State,
    Row .halt false 0x76 [] 1 1
    ∧ (s.cfg.haltPolicy = .nop → MakesCpu .halt s s.cpu)
    ∧ (s.cfg.haltPolicy = .spin → (∃ k, k < 5 ∧ Requested s k) → MakesCpu .halt s s.cpu)
    ∧ (s.cfg.haltPolicy = .spin → (¬ ∃ k, k < 5 ∧ Requested s k) → MakesCpu .halt s { s.cpu with pc := s.pc0 })

/-- Tier 2. The eleven undefined bytes are stuck, with the byte fetched and its address pc0 in the reason (log 11); every other
instruction completes in every state. -/
def Obligations.UndefinedBytesAreStuckAndAllElseCompletes : Prop :=
  (∀ e ∈ [(0xD3#8, Instr.undefinedD3), (0xDB, .undefinedDB), (0xDD, .undefinedDD), (0xE3, .undefinedE3),
      (0xE4, .undefinedE4), (0xEB, .undefinedEB), (0xEC, .undefinedEC), (0xED, .undefinedED), (0xF4, .undefinedF4),
      (0xFC, .undefinedFC), (0xFD, .undefinedFD)], ∀ (s : State) (rest : List Byte),
    decode false (e.1 :: rest) = .ok (e.2, rest) ∧ (descriptor e.2).length = 1
    ∧ exec e.2 s = .fault (.undefinedOpcode (directRead s s.pc0) s.pc0))
  ∧ (∀ (i : Instr) (s : State), isUndefined i = false → ∃ t, exec i s = .next t)
  ∧ (∀ (op b1 b2 : Byte), isUndefined (decodeEntry true op b1 b2) = false)

/-! ### Rules over all instructions -/

/-- Tier 2. Each flag's new value agrees with the row's flag mask, for every instruction that completes. -/
def Obligations.FlagMasksAgree : Prop :=
  ∀ (i : Instr) (s t : State), exec i s = .next t →
    flagAllows (descriptor i).flags.z s.zf t.zf ∧ flagAllows (descriptor i).flags.n s.nf t.nf
    ∧ flagAllows (descriptor i).flags.h s.hf t.hf ∧ flagAllows (descriptor i).flags.c s.cf t.cf

/-- Tier 2. IME is written by DI, EI and RETI only, PREFIX by 0xCB only; after the advance PC is written by the control transfers
and a spinning HALT only, SP by the entries of R32's list only; every prefixed entry has length 1, equal cycle counts, and writes
neither PC nor SP. -/
def Obligations.ControlRegistersHaveFewWriters : Prop :=
  ∀ (i : Instr) (s t : State), exec i s = .next t →
    (i ≠ .di ∧ i ≠ .ei ∧ i ≠ .reti → t.cpu.ime = s.cpu.ime)
    ∧ (i ≠ .prefixCb → t.cpu.prefixOp = s.cpu.prefixOp)
    ∧ (¬ WritesPc i → t.cpu.pc = s.cpu.pc) ∧ (i = .halt → s.cfg.haltPolicy = .nop → t.cpu.pc = s.cpu.pc)
    ∧ (¬ WritesSp i → t.cpu.sp = s.cpu.sp)
    ∧ ((encodeEntry i).prefixed = true → t.cpu.pc = s.cpu.pc ∧ t.cpu.sp = s.cpu.sp ∧ (descriptor i).length = 1
      ∧ (descriptor i).mcyclesTaken = (descriptor i).mcycles)

/-- Tier 2. Fetching and executing an entry of the parameter TABLE, whatever it holds. The entry at the index is the one TABLE
lists, else the reference row of the instruction the decoder reads at PC; the selectors load the immediate from PC + 1; the
effect runs with PREFIX cleared, PC advanced by the entry's length and pc0 at the opcode. The cost is 4 times the entry's first
count when the effect left PC at its post-fetch value, else 4 times the second; an index of BREAK_OPCODES raises the break flag;
an effect that set PREFIX uses no slot. -/
def Obligations.FetchExecuteChargesByPc : Prop :=
  ∀ s t : State,
    let index := (directRead s s.cpu.pc).toNat + (if s.cpu.prefixOp then 256 else 0)
    let d := tableEntry s.cfg index
    let i := fetchInstr s
    let after := s.cpu.pc + BitVec.ofNat 16 d.length
    (s.cfg.tableOk = true → ∀ e ∈ s.cfg.table, e.1 = index → d = e.2)
    ∧ ((∀ e ∈ s.cfg.table, e.1 ≠ index) →
      i = decodeEntry s.cpu.prefixOp (directRead s s.cpu.pc) (directRead s (s.cpu.pc + 1)) (directRead s (s.cpu.pc + 2))
      ∧ d.length = (descriptor i).length ∧ d.mcycles = (descriptor i).charged s.cfg.prefixCycleSplit false
      ∧ d.mcyclesTaken = (descriptor i).charged s.cfg.prefixCycleSplit true)
    ∧ (∀ op, (encodeEntry d.effect).bytes = [op] → i = d.effect)
    ∧ (∀ op b, (encodeEntry d.effect).bytes = [op, b] → d.operand1 = .imm8 ∨ d.operand2 = .imm8 →
      encodeEntry i = ⟨(encodeEntry d.effect).prefixed, [op, directRead s (s.cpu.pc + 1)]⟩)
    ∧ (∀ op b c, (encodeEntry d.effect).bytes = [op, b, c] → d.operand1 = .imm16 ∨ d.operand2 = .imm16 →
      encodeEntry i
        = ⟨(encodeEntry d.effect).prefixed, [op, directRead s (s.cpu.pc + 1), directRead s (s.cpu.pc + 1 + 1)]⟩)
    ∧ (exec i (((s.setPrefixOp false).setPc after).setPc0 s.cpu.pc) = .next t → ∃ x, fetchExecute s = .next x
      ∧ x.cycles = 4 * (if t.cpu.pc = after then d.mcycles else d.mcyclesTaken) ∧ x.usesSlot = !t.cpu.prefixOp
      ∧ x.state = (if index ∈ t.cfg.breakOpcodes then t.setBreakFlag true else t))

/-! ### Interrupts -/

/-- Tier 2. The poll and the dispatch: with the poll running, the lowest enabled pending source k is taken: its IF bit is
cleared and no other, PC is pushed by the write dispatch (both bytes, to memory and to the serial sink), PC becomes 0x40 + 8k,
IME is cleared when DISPATCH_CLEARS_IME, the cost is 20 cycles and a slot, and nothing else changes. With no poll, or no enabled
pending source, the step fetches and executes. -/
def Obligations.PollAndDispatch : Prop :=
  ∀ s : State,
    (¬ Polls s → cpuStep s = fetchExecute s)
    ∧ (Polls s → (∀ k, k < 5 → ¬ Requested s k) → cpuStep s = fetchExecute s)
    ∧ (∀ k, k < 5 → Polls s → Requested s k → (∀ j, j < k → ¬ Requested s j) →
      let io := s.cfg.io
      let cleared := fun a : Word => if a = io.ifReg then directRead s a &&& ~~~(1#8 <<< k) else directRead s a
      ∃ x, cpuStep s = .next x ∧ x.cycles = 20 ∧ x.usesSlot = true
        ∧ x.state.cpu = { s.cpu with sp := s.cpu.sp - 2, pc := BitVec.ofNat 16 (0x40 + 8 * k), ime := !s.cfg.dispatchClearsIme }
        ∧ (∀ a, directRead x.state a = bytesAfterWord io cleared (s.cpu.sp - 2) s.cpu.pc a)
        ∧ x.state.serialOut = serialAfterWord io s.serialOut (s.cpu.sp - 2) s.cpu.pc
        ∧ OnlyCpuMemSerial s x.state)

/-! ### Timer, PPU, renderer, joypad -/

/-- Tier 2. `timer_advance(c)`: the DIV part and the TIMA part, the overflow request, the re-arm clamped at 0, and the frame. -/
def Obligations.TimerAdvance : Prop :=
  ∀ (s : State) (c : Nat), s.cfg.ioOk = true →
    let t := timerAdvance s c
    let io := s.cfg.io
    let period := periodOfTac (directRead s io.tac)
    let div := s.timer.clocksTillDivInc - (c : Int)
    let tima := s.timer.clocksTillTimaInc - (c : Int)
    let on := (directRead s io.tac).toNat / 4 % 2 = 1
    let old := directRead s io.tima
    t.timer.clocksTillDivInc = (if div ≤ 0 then max 0 (div + 256) else div)
    ∧ directRead t io.div = (if div ≤ 0 then directRead s io.div + 1 else directRead s io.div)
    ∧ t.timer.clocksTillTimaInc
      = (if on then if tima ≤ 0 then max 0 (tima + period) else tima else s.timer.clocksTillTimaInc)
    ∧ directRead t io.tima = (if on ∧ tima ≤ 0 then
        if old = 0xFF#8 then if s.cfg.timaReloadFromTma then directRead s io.tma else 0 else old + 1
      else old)
    ∧ directRead t io.ifReg
      = (if on ∧ tima ≤ 0 ∧ old = 0xFF#8 then directRead s io.ifReg ||| 4#8 else directRead s io.ifReg)
    ∧ (∀ a : Word, a ≠ io.div → a ≠ io.tima → a ≠ io.ifReg → directRead t a = directRead s a)
    ∧ (s.setMem t.mem).setTimer t.timer = t

/-- Tier 2. After any timer advance both budgets are at least 0, and a DIV budget of 256 or less stays so. -/
def Obligations.TimerBudgetsStayInRange : Prop :=
  ∀ (s : State) (c : Nat), s.timer.ok → (timerAdvance s c).timer.ok
    ∧ (s.timer.clocksTillDivInc ≤ 256 → (timerAdvance s c).timer.clocksTillDivInc ≤ 256)

/-- Tier 2. `ppu_advance(c)` with the LCD on: the dots and lines crossed, STAT, the VBlank and STAT requests by PPU_IRQ_MODE, the
LY mirror, the visible lines completed rendered and no other, and the frame (R440, R441, R443 to R449). -/
def Obligations.PpuAdvanceWithLcdOn : Prop :=
  ∀ (s : State) (c : Nat), s.cfg.ioOk = true → s.lcd.ok → (directRead s s.cfg.io.lcdc).getLsbD 7 = true →
    let t := ppuAdvance s c
    let io := s.cfg.io
    let n := linesCrossed s c
    let sc := dotsAfter s c
    let ly := (s.lcd.ly + n) % 154
    let mode : Nat := if 144 ≤ ly then 1 else if sc ≤ 80 then 2 else if sc ≤ 248 then 3 else 0
    let same : Bool := decide (ly = (directRead s io.lyc).toNat)
    let ask : Bool := decide (s.cfg.ppuIrqMode = .level) || decide (0 < n)
    t.lcd = { scanlineCycles := sc, ly := ly }
    ∧ directRead t io.stat = (directRead s io.stat &&& 0xF8#8) ||| BitVec.ofNat 8 (mode + (if same then 4 else 0))
    ∧ directRead t io.ly = BitVec.ofNat 8 ly
    ∧ directRead t io.ifReg = directRead s io.ifReg ||| (if ask && decide (ly = 144) then 1#8 else 0#8)
        ||| (if ask && same then 2#8 else 0#8)
    ∧ (∀ a : Word, a ≠ io.stat → a ≠ io.ly → a ≠ io.ifReg → directRead t a = directRead s a)
    ∧ t.framebuffer = (List.range n).foldl (fun fb j =>
        let y := (s.lcd.ly + j) % 154
        if y < 144 then Framebuffer.setLine fb y (lineBytes s y) else fb) s.framebuffer
    ∧ ((s.setMem t.mem).setLcd t.lcd).setFramebuffer t.framebuffer = t

/-- Tier 1. `ppu_advance(c)` with the LCD off: LY is held at 0 in both places and nothing else changes. -/
def Obligations.PpuFrozenWithLcdOff : Prop :=
  ∀ (s : State) (c : Nat), (directRead s s.cfg.io.lcdc).getLsbD 7 = false →
    let t := ppuAdvance s c
    t.lcd = { s.lcd with ly := 0 } ∧ directRead t s.cfg.io.ly = 0
    ∧ (∀ a : Word, a ≠ s.cfg.io.ly → directRead t a = directRead s a) ∧ (s.setMem t.mem).setLcd t.lcd = t

/-- Tier 2. The pixels of a rendered line: pixel (x, y) has the shade of its colour id in all three bytes, the id being that of
the last selected sprite with an opaque pixel there, else the background's; every byte of another line keeps its value (R450 to
R457). -/
def Obligations.RenderedLine : Prop :=
  ∀ (s : State) (y : Nat), y < 144 →
    let fb := (renderScanline s y).framebuffer
    (∀ x k, x < 160 → k < 3 →
      let opaqueIds := ((selectedSprites s y).map (spriteId s x y)).filter (fun id => id != 0)
      framebufferByte fb ((x + y * 160) * 3 + k)
        = shadeLevel s.cfg.shade (opaqueIds.getLastD (backgroundId s x y)))
    ∧ (∀ i, i / 480 ≠ y → framebufferByte fb i = framebufferByte s.framebuffer i)

/-- Tier 1. At most ten sprites are drawn on a line, whatever OAM holds. -/
def Obligations.AtMostTenSpritesOnALine : Prop :=
  ∀ (s : State) (lcdc : Byte) (y : Nat), (spritesOnLine s lcdc y).length ≤ 10

/-- Tier 2. The joypad sample: bits 7..4 of JOYP are kept, bits 3..0 show the released buttons of the groups whose select bit is
0, and no other byte and no other state changes. -/
def Obligations.JoypadSample : Prop :=
  ∀ s : State,
    let t := joypadSample s
    let j := directRead s s.cfg.io.joyp
    let k := directRead t s.cfg.io.joyp
    let p := s.joypad
    k.toNat / 16 = j.toNat / 16
    ∧ k.getLsbD 3 = ((!j.getLsbD 4 && !p.down) || (!j.getLsbD 5 && !p.start))
    ∧ k.getLsbD 2 = ((!j.getLsbD 4 && !p.up) || (!j.getLsbD 5 && !p.select))
    ∧ k.getLsbD 1 = ((!j.getLsbD 4 && !p.left) || (!j.getLsbD 5 && !p.b))
    ∧ k.getLsbD 0 = ((!j.getLsbD 4 && !p.right) || (!j.getLsbD 5 && !p.a))
    ∧ (∀ a : Word, a ≠ s.cfg.io.joyp → directRead t a = directRead s a) ∧ s.setMem t.mem = t

/-! ### The memory bus -/

/-- Tier 2. The five cases of the mediated write, each with its effect and what it leaves alone. -/
def Obligations.MediatedWriteCases : Prop :=
  ∀ (s : State) (a : Word) (v : Byte),
    let io := s.cfg.io
    (a.toNat ≤ 0x7FFF → memWrite s a v = s)
    ∧ (s.cfg.ioOk = true →
      (let t := memWrite s io.dma v
      (∀ i, i < 160 → byteAt t (0xFE00 + i) = byteAt s (256 * v.toNat + i))
      ∧ (∀ x : Word, x.toNat < 0xFE00 ∨ 0xFE9F < x.toNat → directRead t x = directRead s x) ∧ s.setMem t.mem = t)
      ∧ (let t := memWrite s io.div v
        directRead t io.div = 0 ∧ (∀ x : Word, x ≠ io.div → directRead t x = directRead s x) ∧ s.setMem t.mem = t)
      ∧ memWrite s io.sb v = s.setSerialOut (s.serialOut ++ [v]))
    ∧ (0x7FFF < a.toNat → a ≠ io.dma → a ≠ io.div → a ≠ io.sb →
      let t := memWrite s a v
      directRead t a = v ∧ (∀ x : Word, x ≠ a → directRead t x = directRead s x) ∧ s.setMem t.mem = t)

/-- Tier 2. A 16-bit read is the byte at the address and, above it, the byte at the next address (wrapping); read back after a
16-bit write to plain memory it gives the word written. -/
def Obligations.WordAccessIsLittleEndianAndReadsBack : Prop :=
  ∀ (s : State) (a v : Word),
    let plain := fun x : Word => 0x7FFF < x.toNat ∧ x ≠ s.cfg.io.dma ∧ x ≠ s.cfg.io.div ∧ x ≠ s.cfg.io.sb
    (memRead16 s a).toNat = (directRead s a).toNat + 256 * (directRead s (a + 1)).toNat
    ∧ (plain a → plain (a + 1) → memRead16 (memWrite16 s a v) a = v)

/-! ### Reset, load, save states -/

/-- Tier 2. The reset procedure: the registers, the bytes POST_BOOT_IO lists, LY, the budgets, the two flags of the orchestrator;
every other byte and every other field is unchanged (R501 with R70, R71, R502, R503). -/
def Obligations.ResetProcedure : Prop :=
  ∀ s : State,
    let t := resetMachine s
    let io := s.cfg.io
    let listed := s.cfg.postBootIo
    t.cpu = { af := 0x01B0, bc := 0x0013, de := 0x00D8, hl := 0x014D, sp := 0xFFFE, pc := 0x0100, ime := false, prefixOp := false }
    ∧ ((listed.map Prod.fst).Nodup → ∀ e ∈ listed, e.1 ≠ io.ly → directRead t e.1 = e.2) ∧ directRead t io.ly = 0
    ∧ (∀ a : Word, a ≠ io.ly → (∀ e ∈ listed, e.1 ≠ a) → directRead t a = directRead s a)
    ∧ t.lcd = { scanlineCycles := 0, ly := 0 }
    ∧ t.timer = { clocksTillDivInc := 256, clocksTillTimaInc := periodOfTac (directRead t io.tac) }
    ∧ (listed = referencePostBootIo → io = referenceIoAddr →
      (∀ e ∈ listed, directRead t e.1 = e.2) ∧ t.timer.clocksTillTimaInc = 1024)
    ∧ t.breakFlag = false ∧ t.slotsDone = 0
    ∧ ((((s.setCpu t.cpu).setMem t.mem).setLcd t.lcd).setTimer t.timer).setBreakFlag false = (t.setSlotsDone s.slotsDone)

/-- Tier 1. The state after reset: the values the spec gives, the LY byte 0, and the post-boot bytes. -/
def Obligations.ResetStateValues : Prop :=
  let s := State.reset
  s.cpu = { af := 0x01B0, bc := 0x0013, de := 0x00D8, hl := 0x014D, sp := 0xFFFE, pc := 0x0100, ime := false, prefixOp := false }
  ∧ s.lcd = { scanlineCycles := 0, ly := 0 } ∧ s.timer = { clocksTillDivInc := 256, clocksTillTimaInc := 1024 }
  ∧ s.runState = .paused ∧ s.breakpoint = none ∧ s.breakFlag = false ∧ s.slotsDone = 0
  ∧ s.ring.cursor = 0 ∧ s.ring.count = 0
  ∧ (∀ e ∈ referencePostBootIo, directRead s e.1 = e.2) ∧ directRead s 0xFF44 = 0

/-- Tier 2. The cartridge load: the first 32 KiB of the ROM stand in memory, the bytes past a shorter ROM are kept and those
above 0x7FFF are what a reset leaves, the header fields are decoded from the bytes the ROM has, the ROM is kept whole, and the machine
is reset (R507 with R501; R504 to R506, R45). -/
def Obligations.CartridgeLoad : Prop :=
  ∀ (s : State) (rom : List Byte),
    let t := loadCartridge s rom
    let io := s.cfg.io
    ((∀ e ∈ s.cfg.postBootIo, 0x7FFF < e.1.toNat) → 0x7FFF < io.ly.toNat →
      ∀ i, i < 0x8000 → byteAt t i = (rom[i]?).getD (byteAt s i))
    ∧ (∀ a : Word, 0x7FFF < a.toNat → directRead t a = directRead (resetMachine s) a)
    ∧ (∃ c, t.cart = some c ∧ c.rom = rom
      ∧ (∀ b, rom[0x148]? = some b → c.romSize = (if b.toNat ≤ 8 then 32768 * 2 ^ b.toNat
          else if b = 0x52 then 72 * 16384 else if b = 0x53 then 80 * 16384 else if b = 0x54 then 96 * 16384 else 32768))
      ∧ (∀ b, rom[0x149]? = some b → c.ramSize = (if b = 2 then 8192 else if b = 3 then 32768 else if b = 4 then 131072
          else if b = 5 then 65536 else 0))
      ∧ (∀ b, rom[0x147]? = some b → c.cartType = b) ∧ (∀ b, rom[0x143]? = some b → c.colorFlag = b.getLsbD 7)
      ∧ (∀ i, i < 11 → ∀ b, rom[0x134 + i]? = some b → c.title[i]? = some b) ∧ c.title.length = 11)
    ∧ t.cpu = State.reset.cpu ∧ t.lcd = State.reset.lcd
    ∧ t.timer = { clocksTillDivInc := 256, clocksTillTimaInc := periodOfTac (directRead t io.tac) }

/-- Tier 2. Push and pop of the save-state ring: push stores the six parts at the cursor's slot and moves cursor and count; pop
on an empty ring is a no-op; pop right after a push restores the six parts it saved and leaves the sinks, the run state and the
cartridge alone. -/
def Obligations.SaveStatePushAndPop : Prop :=
  ∀ s d : State,
    let k := s.cfg.saveCapacity
    let pushed := pushSaveState s
    let later := d.setRing pushed.ring
    (s.ring.slots.length = k → 1 ≤ k →
      pushed.ring.slots[s.ring.cursor % k]? = some (some (takeSnapshot s))
      ∧ (∀ i, i ≠ s.ring.cursor % k → pushed.ring.slots[i]? = s.ring.slots[i]?)
      ∧ pushed.ring.cursor = s.ring.cursor + 1 ∧ pushed.ring.count = min (s.ring.count + 1) k
      ∧ s.setRing pushed.ring = pushed)
    ∧ (s.ring.count = 0 → popSaveState s = s)
    ∧ (s.ring.slots.length = k → 1 ≤ k → d.cfg = s.cfg →
      let t := popSaveState later
      t.cpu = s.cpu ∧ t.mem = s.mem ∧ t.lcd = s.lcd ∧ t.timer = s.timer ∧ t.framebuffer = s.framebuffer
      ∧ t.joypad = s.joypad ∧ t.ring.cursor = s.ring.cursor ∧ t.ring.count = min (s.ring.count + 1) k - 1
      ∧ t.serialOut = d.serialOut ∧ t.traceOut = d.traceOut ∧ t.runState = d.runState ∧ t.cart = d.cart)

/-- Tier 2. The ring keeps the K most recent pushes: after n pushes, m pops (1 ≤ m ≤ min n K) restore the state of push number
n - m + 1, most recent first. -/
def Obligations.PopsRestoreTheMostRecentPushes : Prop :=
  ∀ (f : Nat → State → State) (s : State) (n m : Nat),
    (∀ i x, (f i x).ring = x.ring ∧ (f i x).cfg = x.cfg) →
    s.ring.slots.length = s.cfg.saveCapacity → s.ring.count ≤ s.cfg.saveCapacity → s.ring.count ≤ s.ring.cursor →
    1 ≤ m → m ≤ n → m ≤ s.cfg.saveCapacity →
    takeSnapshot (popMany m (pushMany f n s)) = takeSnapshot (f (n - m) (pushMany f (n - m) s))

/-! ### The orchestrator -/

/-- Tier 2. Batches and host frames: a paused machine with no host action rests; a running or stepping one begins a batch with no
slot used; at a boundary with host actions each is done in its order (R176) before that; inside a batch an iteration that neither
pauses nor uses the last slot leaves the batch open, and any other ends the frame: Step becomes Paused, the ring is that of a push
of the ended iteration's state when REWIND_PUSH_PER_FRAME and otherwise as it was, and nothing else changes. -/
def Obligations.BatchesAndFrames : Prop :=
  ∀ s : State,
    let budget := fun t : State => match t.runState with
      | .running => t.cfg.instrsPerFrame
      | .step => 1
      | .paused => 0
    (s.inBatch = false → s.hostScript = [] → s.runState = .paused → step s = .next s)
    ∧ (s.inBatch = false → s.hostScript = [] → 0 < budget s → step s = step ((s.setSlotsDone 0).setInBatch true))
    ∧ (∀ acts later, s.inBatch = false → s.hostScript = acts :: later →
      let t := acts.foldl (fun x act => match act with
          | .setJoypad j => x.setJoypad j
          | .setRunState r => x.setRunState r
          | .setBreakpoint b => x.setBreakpoint b
          | .popSaveState => popSaveState x
          | .requestReset => resetMachine x
          | .loadCartridge rom => loadCartridge x rom) (s.setHostScript later)
      (budget t = 0 → step s = .next t) ∧ (0 < budget t → step s = step ((t.setSlotsDone 0).setInBatch true)))
    ∧ (∀ t, s.inBatch = true → iteration s = .next t →
      (t.slotsDone < budget t → step s = .next t)
      ∧ (budget t ≤ t.slotsDone → ∃ u, step s = .next u ∧ u.inBatch = false
        ∧ u.runState = (if t.runState = .step then .paused else t.runState)
        ∧ u.ring = (if t.cfg.rewindPushPerFrame then (pushSaveState t).ring else t.ring)
        ∧ u.cpu = t.cpu ∧ u.mem = t.mem ∧ u.lcd = t.lcd ∧ u.timer = t.timer ∧ u.framebuffer = t.framebuffer
        ∧ u.joypad = t.joypad ∧ u.cart = t.cart ∧ u.breakpoint = t.breakpoint ∧ u.breakFlag = t.breakFlag
        ∧ u.serialOut = t.serialOut ∧ u.traceOut = t.traceOut ∧ u.slotsDone = t.slotsDone ∧ u.cfg = t.cfg
        ∧ u.hostScript = t.hostScript ∧ u.pc0 = t.pc0))

/-- Tier 2. After every iteration: the run state is Paused exactly when PC is the breakpoint, the break flag is raised, or it was
Paused before; a dispatch uses one slot, an entry uses one unless its effect set PREFIX. -/
def Obligations.BreakpointsAndSlots : Prop :=
  ∀ s t : State, iteration s = .next t →
    t.runState = (if t.breakpoint = some t.cpu.pc ∨ t.breakFlag = true then .paused else s.runState)
    ∧ t.breakpoint = s.breakpoint
    ∧ (s.cfg.breakOpcodes = [] → t.breakFlag = false)
    ∧ (selectedSource (beginIteration s) ≠ none → t.slotsDone = s.slotsDone + 1)
    ∧ (selectedSource (beginIteration s) = none → t.slotsDone = s.slotsDone + (if t.cpu.prefixOp then 0 else 1))
    ∧ (s.cpu.prefixOp = false → t.slotsDone = s.slotsDone + (if t.cpu.prefixOp then 0 else 1))
    ∧ (s.cpu.prefixOp = true → s.cfg.table = [] → t.slotsDone = s.slotsDone + 1)

/-- Tier 2. The start of an iteration. The joypad is sampled into JOYP, the break flag cleared, and an iteration that begins with
PREFIX = false appends one line to the trace sink when tracing, of the registers, PC and the four bytes at PC as they are after
the sample; otherwise none. Nothing but JOYP, the break flag and the sink changes before the poll. -/
def Obligations.TraceSink : Prop :=
  ∀ s : State,
    let t := beginIteration s
    (s.cfg.traceEnabled = true ∧ s.cpu.prefixOp = false → ∃ l : TraceLine, t.traceOut = s.traceOut ++ [l]
      ∧ l.a = s.regA ∧ l.f = s.regF ∧ wordOf l.b l.c = s.cpu.bc ∧ wordOf l.d l.e = s.cpu.de ∧ wordOf l.h l.l = s.cpu.hl
      ∧ l.sp = s.cpu.sp ∧ l.pc = s.cpu.pc ∧ l.byte0 = directRead t s.cpu.pc ∧ l.byte1 = directRead t (s.cpu.pc + 1)
      ∧ l.byte2 = directRead t (s.cpu.pc + 2) ∧ l.byte3 = directRead t (s.cpu.pc + 3))
    ∧ (s.cfg.traceEnabled = false ∨ s.cpu.prefixOp = true → t.traceOut = s.traceOut)
    ∧ directRead t s.cfg.io.joyp = joypByte (directRead s s.cfg.io.joyp) s.joypad
    ∧ (∀ a : Word, a ≠ s.cfg.io.joyp → directRead t a = directRead s a)
    ∧ t.breakFlag = false
    ∧ (s.setMem t.mem).setTraceOut t.traceOut = t.setBreakFlag s.breakFlag

/-! ### Invariants -/

/-- Tier 3. Every step keeps the invariant: canonical memory, F[3:0] = 0, the LCD and timer ranges, the framebuffer's form, the
LY mirror, the ring's invariants, well-formed parameters, slots left inside a batch. -/
def Obligations.EveryStepKeepsTheInvariant : Prop :=
  ∀ s t : State, GoodState s → step s = .next t → GoodState t

/-- Tier 1. The state after reset has the invariant. -/
def Obligations.ResetHasTheInvariant : Prop := GoodState State.reset

/-- Tier 3. Inside a batch no step changes a byte of ROM: no instruction, no interrupt dispatch and no device writes an address
of 0x0000..0x7FFF, whatever TABLE holds, as long as IO_ADDR puts no register there (log 21). -/
def Obligations.NoStepInABatchChangesRom : Prop :=
  ∀ s t : State, s.cfg.ioOk = true → s.inBatch = true → step s = .next t →
    ∀ a : Word, a.toNat ≤ 0x7FFF → directRead t a = directRead s a

/-- Tier 2. A step inside a batch is stuck exactly where it fetches an entry whose effect is `Undefined`, with the byte at PC and
PC in the reason, and is never refused; under the reference entry that is one of the eleven bytes in normal-fetch state. -/
def Obligations.OnlyUndefinedBytesStopTheMachine : Prop :=
  ∀ s : State, s.inBatch = true →
    let b := beginIteration s
    let stuck : Fault := .undefinedOpcode (directRead b s.cpu.pc) s.cpu.pc
    (∀ r, step s ≠ .refused r)
    ∧ (selectedSource b = none → isUndefined (fetchInstr b) = true → step s = .fault stuck)
    ∧ (∀ r, step s = .fault r → r = stuck ∧ selectedSource b = none ∧ isUndefined (fetchInstr b) = true
      ∧ ((∀ e ∈ s.cfg.table, e.1 ≠ fetchIndex b) → s.cpu.prefixOp = false
        ∧ directRead b s.cpu.pc ∈ [0xD3#8, 0xDB, 0xDD, 0xE3, 0xE4, 0xEB, 0xEC, 0xED, 0xF4, 0xFC, 0xFD]))
end

