-- ==== Sys2Proof/Laws/Bits.lean ====
section
/-!
SUPPORT. Halves of words, and the flag byte read back.
-/

namespace Sys2Proof.Machine

@[simp] theorem hiByte_wordOf (h l : Byte) : hiByte (wordOf h l) = h := by
  unfold hiByte wordOf
  rw [BitVec.extractLsb'_append_eq_of_le (by decide)]
  simp

@[simp] theorem loByte_wordOf (h l : Byte) : loByte (wordOf h l) = l := by
  unfold loByte wordOf
  rw [BitVec.extractLsb'_append_eq_of_add_le (by decide)]
  simp

@[simp] theorem wordOf_hiByte_loByte (v : Word) : wordOf (hiByte v) (loByte v) = v := by
  apply BitVec.eq_of_getLsbD_eq
  intro i hi
  simp only [wordOf, hiByte, loByte, BitVec.getLsbD_append, BitVec.getLsbD_extractLsb']
  by_cases h : i < 8
  · simp [h]
  · simp only [h, if_false]
    rw [show 8 + (i - 8) = i by omega]
    simp [show i - 8 < 8 by omega]

@[simp] theorem flagByte_bit7 (g : Flags) : (flagByte g)[7] = g.z := by
  obtain ⟨z, n, h, c⟩ := g; revert z n h c; decide

@[simp] theorem flagByte_bit6 (g : Flags) : (flagByte g)[6] = g.n := by
  obtain ⟨z, n, h, c⟩ := g; revert z n h c; decide

@[simp] theorem flagByte_bit5 (g : Flags) : (flagByte g)[5] = g.h := by
  obtain ⟨z, n, h, c⟩ := g; revert z n h c; decide

@[simp] theorem flagByte_bit4 (g : Flags) : (flagByte g)[4] = g.c := by
  obtain ⟨z, n, h, c⟩ := g; revert z n h c; decide

@[simp] theorem flagByte_lowNibble (g : Flags) : flagByte g &&& 0x0F#8 = 0#8 := by
  obtain ⟨z, n, h, c⟩ := g; revert z n h c; decide

@[simp] theorem lowNibble_of_highNibble (v : Byte) : (v &&& 0xF0#8) &&& 0x0F#8 = 0#8 := by
  rw [BitVec.and_assoc, show (0xF0#8 : Byte) &&& 0x0F#8 = 0#8 from rfl, BitVec.and_zero]

end Sys2Proof.Machine
end

