-- ==== Sys2Proof/Laws/Memory.lean ====
section
/-!
SUPPORT. The memory laws: read after write for every list of cells, and every operation keeps the canonical form.
-/

namespace Sys2Proof.Machine

theorem Memory.read_erase_same (m : Memory) (a : Nat) : Memory.read (Memory.erase m a) a = Memory.unlisted a := by
  induction m with
  | nil => rfl
  | cons c m ih =>
    obtain ⟨b, w⟩ := c
    simp only [Memory.erase, List.filter_cons] at *
    by_cases h : b = a
    · simpa [h] using ih
    · simp [h, Memory.read]; exact ih

theorem Memory.read_erase_other (m : Memory) {a x : Nat} (h : x ≠ a) :
    Memory.read (Memory.erase m a) x = Memory.read m x := by
  induction m with
  | nil => rfl
  | cons c m ih =>
    obtain ⟨b, w⟩ := c
    simp only [Memory.erase, List.filter_cons] at *
    by_cases hb : b = a
    · have hx : (b == x) = false := by simp [hb, Ne.symm h]
      simpa [hb, Memory.read, Ne.symm h] using ih
    · by_cases hx : b = x
      · simp [Memory.read, hx, h]
      · simp [hb, Memory.read, hx]; exact ih

theorem Memory.read_insertCell_other (m : Memory) {a x : Nat} (v : Byte) (h : x ≠ a) :
    Memory.read (Memory.insertCell m a v) x = Memory.read m x := by
  induction m with
  | nil => simp [Memory.insertCell, Memory.read, Ne.symm h]
  | cons c m ih =>
    obtain ⟨b, w⟩ := c
    by_cases hab : a < b
    · simp [Memory.insertCell, hab, Memory.read, Ne.symm h]
    · simp [Memory.insertCell, hab, Memory.read, ih]

theorem Memory.read_insertCell_same (m : Memory) (a : Nat) (v : Byte) (h : ∀ c ∈ m, c.1 ≠ a) :
    Memory.read (Memory.insertCell m a v) a = v := by
  induction m with
  | nil => simp [Memory.insertCell, Memory.read]
  | cons c m ih =>
    obtain ⟨b, w⟩ := c
    by_cases hab : a < b
    · simp [Memory.insertCell, hab, Memory.read]
    · have hb : b ≠ a := h (b, w) (by simp)
      simp [Memory.insertCell, hab, Memory.read, hb]
      exact ih (fun c hc => h c (by simp [hc]))

theorem Memory.erase_ne (m : Memory) (a : Nat) : ∀ c ∈ Memory.erase m a, c.1 ≠ a := by
  intro c hc
  simpa using (List.mem_filter.mp hc).2

/-- A read gives what the last write to the address stored. -/
theorem Memory.read_write_same (m : Memory) (a : Nat) (v : Byte) : Memory.read (Memory.write m a v) a = v := by
  unfold Memory.write
  split
  · next h => rw [Memory.read_erase_same, h]
  · exact Memory.read_insertCell_same _ a v (Memory.erase_ne m a)

/-- A write leaves every other address alone. -/
theorem Memory.read_write_other (m : Memory) {a x : Nat} (v : Byte) (h : x ≠ a) :
    Memory.read (Memory.write m a v) x = Memory.read m x := by
  unfold Memory.write
  split
  · exact Memory.read_erase_other m h
  · rw [Memory.read_insertCell_other _ v h, Memory.read_erase_other m h]

theorem Memory.mem_insertCell (m : Memory) (a : Nat) (v : Byte) (c : Host.Cell) :
    c ∈ Memory.insertCell m a v ↔ c = (a, v) ∨ c ∈ m := by
  induction m with
  | nil => simp [Memory.insertCell]
  | cons d m ih =>
    obtain ⟨b, w⟩ := d
    by_cases h : a < b
    · simp [Memory.insertCell, h]
    · simp only [Memory.insertCell, h, if_false, List.mem_cons, ih]
      tauto

theorem Memory.pairwise_insertCell (m : Memory) (a : Nat) (v : Byte)
    (h : m.Pairwise (fun c d => c.1 < d.1)) (hne : ∀ c ∈ m, c.1 ≠ a) :
    (Memory.insertCell m a v).Pairwise (fun c d => c.1 < d.1) := by
  induction m with
  | nil => simp [Memory.insertCell]
  | cons d m ih =>
    obtain ⟨b, w⟩ := d
    rw [List.pairwise_cons] at h
    by_cases hab : a < b
    · simp only [Memory.insertCell, hab, if_true, List.pairwise_cons]
      refine ⟨?_, h⟩
      intro c hc
      rcases List.mem_cons.mp hc with rfl | hc
      · exact hab
      · exact Nat.lt_trans hab (h.1 c hc)
    · simp only [Memory.insertCell, hab, if_false, List.pairwise_cons]
      have hb : b ≠ a := hne (b, w) (by simp)
      refine ⟨?_, ih h.2 (fun c hc => hne c (by simp [hc]))⟩
      intro c hc
      rcases (Memory.mem_insertCell m a v c).mp hc with rfl | hc
      · simp only; omega
      · exact h.1 c hc

/-- A write inside the address space keeps the canonical form. -/
theorem Memory.wf_write (m : Memory) (a : Nat) (v : Byte) (ha : a < 65536) (h : Memory.wf m) :
    Memory.wf (Memory.write m a v) := by
  have hf : Memory.wf (Memory.erase m a) :=
    ⟨h.1.filter _, fun c hc => h.2 c (List.mem_filter.mp hc).1⟩
  unfold Memory.write
  split
  · exact hf
  · next hv =>
    refine ⟨Memory.pairwise_insertCell _ a v hf.1 (Memory.erase_ne m a), ?_⟩
    intro c hc
    rcases (Memory.mem_insertCell _ a v c).mp hc with rfl | hc
    · exact ⟨ha, hv⟩
    · exact hf.2 c hc

/-- Memory with nothing listed is canonical. -/
theorem Memory.wf_nil : Memory.wf [] := ⟨List.Pairwise.nil, by simp⟩

/-- Every operation on memory has a canonical result: the reset memory and every write. -/
theorem Memory.wf_ops : Memory.wf [] ∧ ∀ m a v, a < 65536 → Memory.wf m → Memory.wf (Memory.write m a v) :=
  ⟨Memory.wf_nil, fun m a v => Memory.wf_write m a v⟩

end Sys2Proof.Machine
end

