-- ==== Sys2Proof/Laws/State.lean ====
section
/-!
SUPPORT. One lemma per field per update of State, true by rfl, so that no later proof unfolds a record update.
-/

namespace Sys2Proof.Machine

variable (s : State)

/-! ### setCpu -/

@[simp] theorem State.setCpu_cpu (v : Cpu) : (s.setCpu v).cpu = v := rfl
@[simp] theorem State.setCpu_mem (v : Cpu) : (s.setCpu v).mem = s.mem := rfl
@[simp] theorem State.setCpu_lcd (v : Cpu) : (s.setCpu v).lcd = s.lcd := rfl
@[simp] theorem State.setCpu_timer (v : Cpu) : (s.setCpu v).timer = s.timer := rfl
@[simp] theorem State.setCpu_framebuffer (v : Cpu) : (s.setCpu v).framebuffer = s.framebuffer := rfl
@[simp] theorem State.setCpu_joypad (v : Cpu) : (s.setCpu v).joypad = s.joypad := rfl
@[simp] theorem State.setCpu_cart (v : Cpu) : (s.setCpu v).cart = s.cart := rfl
@[simp] theorem State.setCpu_ring (v : Cpu) : (s.setCpu v).ring = s.ring := rfl
@[simp] theorem State.setCpu_runState (v : Cpu) : (s.setCpu v).runState = s.runState := rfl
@[simp] theorem State.setCpu_breakpoint (v : Cpu) : (s.setCpu v).breakpoint = s.breakpoint := rfl
@[simp] theorem State.setCpu_breakFlag (v : Cpu) : (s.setCpu v).breakFlag = s.breakFlag := rfl
@[simp] theorem State.setCpu_slotsDone (v : Cpu) : (s.setCpu v).slotsDone = s.slotsDone := rfl
@[simp] theorem State.setCpu_serialOut (v : Cpu) : (s.setCpu v).serialOut = s.serialOut := rfl
@[simp] theorem State.setCpu_traceOut (v : Cpu) : (s.setCpu v).traceOut = s.traceOut := rfl
@[simp] theorem State.setCpu_cfg (v : Cpu) : (s.setCpu v).cfg = s.cfg := rfl
@[simp] theorem State.setCpu_inBatch (v : Cpu) : (s.setCpu v).inBatch = s.inBatch := rfl
@[simp] theorem State.setCpu_hostScript (v : Cpu) : (s.setCpu v).hostScript = s.hostScript := rfl
@[simp] theorem State.setCpu_pc0 (v : Cpu) : (s.setCpu v).pc0 = s.pc0 := rfl

/-! ### setMem -/

@[simp] theorem State.setMem_cpu (v : Memory) : (s.setMem v).cpu = s.cpu := rfl
@[simp] theorem State.setMem_mem (v : Memory) : (s.setMem v).mem = v := rfl
@[simp] theorem State.setMem_lcd (v : Memory) : (s.setMem v).lcd = s.lcd := rfl
@[simp] theorem State.setMem_timer (v : Memory) : (s.setMem v).timer = s.timer := rfl
@[simp] theorem State.setMem_framebuffer (v : Memory) : (s.setMem v).framebuffer = s.framebuffer := rfl
@[simp] theorem State.setMem_joypad (v : Memory) : (s.setMem v).joypad = s.joypad := rfl
@[simp] theorem State.setMem_cart (v : Memory) : (s.setMem v).cart = s.cart := rfl
@[simp] theorem State.setMem_ring (v : Memory) : (s.setMem v).ring = s.ring := rfl
@[simp] theorem State.setMem_runState (v : Memory) : (s.setMem v).runState = s.runState := rfl
@[simp] theorem State.setMem_breakpoint (v : Memory) : (s.setMem v).breakpoint = s.breakpoint := rfl
@[simp] theorem State.setMem_breakFlag (v : Memory) : (s.setMem v).breakFlag = s.breakFlag := rfl
@[simp] theorem State.setMem_slotsDone (v : Memory) : (s.setMem v).slotsDone = s.slotsDone := rfl
@[simp] theorem State.setMem_serialOut (v : Memory) : (s.setMem v).serialOut = s.serialOut := rfl
@[simp] theorem State.setMem_traceOut (v : Memory) : (s.setMem v).traceOut = s.traceOut := rfl
@[simp] theorem State.setMem_cfg (v : Memory) : (s.setMem v).cfg = s.cfg := rfl
@[simp] theorem State.setMem_inBatch (v : Memory) : (s.setMem v).inBatch = s.inBatch := rfl
@[simp] theorem State.setMem_hostScript (v : Memory) : (s.setMem v).hostScript = s.hostScript := rfl
@[simp] theorem State.setMem_pc0 (v : Memory) : (s.setMem v).pc0 = s.pc0 := rfl

/-! ### setLcd -/

@[simp] theorem State.setLcd_cpu (v : LcdTiming) : (s.setLcd v).cpu = s.cpu := rfl
@[simp] theorem State.setLcd_mem (v : LcdTiming) : (s.setLcd v).mem = s.mem := rfl
@[simp] theorem State.setLcd_lcd (v : LcdTiming) : (s.setLcd v).lcd = v := rfl
@[simp] theorem State.setLcd_timer (v : LcdTiming) : (s.setLcd v).timer = s.timer := rfl
@[simp] theorem State.setLcd_framebuffer (v : LcdTiming) : (s.setLcd v).framebuffer = s.framebuffer := rfl
@[simp] theorem State.setLcd_joypad (v : LcdTiming) : (s.setLcd v).joypad = s.joypad := rfl
@[simp] theorem State.setLcd_cart (v : LcdTiming) : (s.setLcd v).cart = s.cart := rfl
@[simp] theorem State.setLcd_ring (v : LcdTiming) : (s.setLcd v).ring = s.ring := rfl
@[simp] theorem State.setLcd_runState (v : LcdTiming) : (s.setLcd v).runState = s.runState := rfl
@[simp] theorem State.setLcd_breakpoint (v : LcdTiming) : (s.setLcd v).breakpoint = s.breakpoint := rfl
@[simp] theorem State.setLcd_breakFlag (v : LcdTiming) : (s.setLcd v).breakFlag = s.breakFlag := rfl
@[simp] theorem State.setLcd_slotsDone (v : LcdTiming) : (s.setLcd v).slotsDone = s.slotsDone := rfl
@[simp] theorem State.setLcd_serialOut (v : LcdTiming) : (s.setLcd v).serialOut = s.serialOut := rfl
@[simp] theorem State.setLcd_traceOut (v : LcdTiming) : (s.setLcd v).traceOut = s.traceOut := rfl
@[simp] theorem State.setLcd_cfg (v : LcdTiming) : (s.setLcd v).cfg = s.cfg := rfl
@[simp] theorem State.setLcd_inBatch (v : LcdTiming) : (s.setLcd v).inBatch = s.inBatch := rfl
@[simp] theorem State.setLcd_hostScript (v : LcdTiming) : (s.setLcd v).hostScript = s.hostScript := rfl
@[simp] theorem State.setLcd_pc0 (v : LcdTiming) : (s.setLcd v).pc0 = s.pc0 := rfl

/-! ### setTimer -/

@[simp] theorem State.setTimer_cpu (v : TimerState) : (s.setTimer v).cpu = s.cpu := rfl
@[simp] theorem State.setTimer_mem (v : TimerState) : (s.setTimer v).mem = s.mem := rfl
@[simp] theorem State.setTimer_lcd (v : TimerState) : (s.setTimer v).lcd = s.lcd := rfl
@[simp] theorem State.setTimer_timer (v : TimerState) : (s.setTimer v).timer = v := rfl
@[simp] theorem State.setTimer_framebuffer (v : TimerState) : (s.setTimer v).framebuffer = s.framebuffer := rfl
@[simp] theorem State.setTimer_joypad (v : TimerState) : (s.setTimer v).joypad = s.joypad := rfl
@[simp] theorem State.setTimer_cart (v : TimerState) : (s.setTimer v).cart = s.cart := rfl
@[simp] theorem State.setTimer_ring (v : TimerState) : (s.setTimer v).ring = s.ring := rfl
@[simp] theorem State.setTimer_runState (v : TimerState) : (s.setTimer v).runState = s.runState := rfl
@[simp] theorem State.setTimer_breakpoint (v : TimerState) : (s.setTimer v).breakpoint = s.breakpoint := rfl
@[simp] theorem State.setTimer_breakFlag (v : TimerState) : (s.setTimer v).breakFlag = s.breakFlag := rfl
@[simp] theorem State.setTimer_slotsDone (v : TimerState) : (s.setTimer v).slotsDone = s.slotsDone := rfl
@[simp] theorem State.setTimer_serialOut (v : TimerState) : (s.setTimer v).serialOut = s.serialOut := rfl
@[simp] theorem State.setTimer_traceOut (v : TimerState) : (s.setTimer v).traceOut = s.traceOut := rfl
@[simp] theorem State.setTimer_cfg (v : TimerState) : (s.setTimer v).cfg = s.cfg := rfl
@[simp] theorem State.setTimer_inBatch (v : TimerState) : (s.setTimer v).inBatch = s.inBatch := rfl
@[simp] theorem State.setTimer_hostScript (v : TimerState) : (s.setTimer v).hostScript = s.hostScript := rfl
@[simp] theorem State.setTimer_pc0 (v : TimerState) : (s.setTimer v).pc0 = s.pc0 := rfl

/-! ### setFramebuffer -/

@[simp] theorem State.setFramebuffer_cpu (v : Framebuffer) : (s.setFramebuffer v).cpu = s.cpu := rfl
@[simp] theorem State.setFramebuffer_mem (v : Framebuffer) : (s.setFramebuffer v).mem = s.mem := rfl
@[simp] theorem State.setFramebuffer_lcd (v : Framebuffer) : (s.setFramebuffer v).lcd = s.lcd := rfl
@[simp] theorem State.setFramebuffer_timer (v : Framebuffer) : (s.setFramebuffer v).timer = s.timer := rfl
@[simp] theorem State.setFramebuffer_framebuffer (v : Framebuffer) : (s.setFramebuffer v).framebuffer = v := rfl
@[simp] theorem State.setFramebuffer_joypad (v : Framebuffer) : (s.setFramebuffer v).joypad = s.joypad := rfl
@[simp] theorem State.setFramebuffer_cart (v : Framebuffer) : (s.setFramebuffer v).cart = s.cart := rfl
@[simp] theorem State.setFramebuffer_ring (v : Framebuffer) : (s.setFramebuffer v).ring = s.ring := rfl
@[simp] theorem State.setFramebuffer_runState (v : Framebuffer) : (s.setFramebuffer v).runState = s.runState := rfl
@[simp] theorem State.setFramebuffer_breakpoint (v : Framebuffer) : (s.setFramebuffer v).breakpoint = s.breakpoint := rfl
@[simp] theorem State.setFramebuffer_breakFlag (v : Framebuffer) : (s.setFramebuffer v).breakFlag = s.breakFlag := rfl
@[simp] theorem State.setFramebuffer_slotsDone (v : Framebuffer) : (s.setFramebuffer v).slotsDone = s.slotsDone := rfl
@[simp] theorem State.setFramebuffer_serialOut (v : Framebuffer) : (s.setFramebuffer v).serialOut = s.serialOut := rfl
@[simp] theorem State.setFramebuffer_traceOut (v : Framebuffer) : (s.setFramebuffer v).traceOut = s.traceOut := rfl
@[simp] theorem State.setFramebuffer_cfg (v : Framebuffer) : (s.setFramebuffer v).cfg = s.cfg := rfl
@[simp] theorem State.setFramebuffer_inBatch (v : Framebuffer) : (s.setFramebuffer v).inBatch = s.inBatch := rfl
@[simp] theorem State.setFramebuffer_hostScript (v : Framebuffer) : (s.setFramebuffer v).hostScript = s.hostScript := rfl
@[simp] theorem State.setFramebuffer_pc0 (v : Framebuffer) : (s.setFramebuffer v).pc0 = s.pc0 := rfl

/-! ### setJoypad -/

@[simp] theorem State.setJoypad_cpu (v : Joypad) : (s.setJoypad v).cpu = s.cpu := rfl
@[simp] theorem State.setJoypad_mem (v : Joypad) : (s.setJoypad v).mem = s.mem := rfl
@[simp] theorem State.setJoypad_lcd (v : Joypad) : (s.setJoypad v).lcd = s.lcd := rfl
@[simp] theorem State.setJoypad_timer (v : Joypad) : (s.setJoypad v).timer = s.timer := rfl
@[simp] theorem State.setJoypad_framebuffer (v : Joypad) : (s.setJoypad v).framebuffer = s.framebuffer := rfl
@[simp] theorem State.setJoypad_joypad (v : Joypad) : (s.setJoypad v).joypad = v := rfl
@[simp] theorem State.setJoypad_cart (v : Joypad) : (s.setJoypad v).cart = s.cart := rfl
@[simp] theorem State.setJoypad_ring (v : Joypad) : (s.setJoypad v).ring = s.ring := rfl
@[simp] theorem State.setJoypad_runState (v : Joypad) : (s.setJoypad v).runState = s.runState := rfl
@[simp] theorem State.setJoypad_breakpoint (v : Joypad) : (s.setJoypad v).breakpoint = s.breakpoint := rfl
@[simp] theorem State.setJoypad_breakFlag (v : Joypad) : (s.setJoypad v).breakFlag = s.breakFlag := rfl
@[simp] theorem State.setJoypad_slotsDone (v : Joypad) : (s.setJoypad v).slotsDone = s.slotsDone := rfl
@[simp] theorem State.setJoypad_serialOut (v : Joypad) : (s.setJoypad v).serialOut = s.serialOut := rfl
@[simp] theorem State.setJoypad_traceOut (v : Joypad) : (s.setJoypad v).traceOut = s.traceOut := rfl
@[simp] theorem State.setJoypad_cfg (v : Joypad) : (s.setJoypad v).cfg = s.cfg := rfl
@[simp] theorem State.setJoypad_inBatch (v : Joypad) : (s.setJoypad v).inBatch = s.inBatch := rfl
@[simp] theorem State.setJoypad_hostScript (v : Joypad) : (s.setJoypad v).hostScript = s.hostScript := rfl
@[simp] theorem State.setJoypad_pc0 (v : Joypad) : (s.setJoypad v).pc0 = s.pc0 := rfl

/-! ### setCart -/

@[simp] theorem State.setCart_cpu (v : Option Cartridge) : (s.setCart v).cpu = s.cpu := rfl
@[simp] theorem State.setCart_mem (v : Option Cartridge) : (s.setCart v).mem = s.mem := rfl
@[simp] theorem State.setCart_lcd (v : Option Cartridge) : (s.setCart v).lcd = s.lcd := rfl
@[simp] theorem State.setCart_timer (v : Option Cartridge) : (s.setCart v).timer = s.timer := rfl
@[simp] theorem State.setCart_framebuffer (v : Option Cartridge) : (s.setCart v).framebuffer = s.framebuffer := rfl
@[simp] theorem State.setCart_joypad (v : Option Cartridge) : (s.setCart v).joypad = s.joypad := rfl
@[simp] theorem State.setCart_cart (v : Option Cartridge) : (s.setCart v).cart = v := rfl
@[simp] theorem State.setCart_ring (v : Option Cartridge) : (s.setCart v).ring = s.ring := rfl
@[simp] theorem State.setCart_runState (v : Option Cartridge) : (s.setCart v).runState = s.runState := rfl
@[simp] theorem State.setCart_breakpoint (v : Option Cartridge) : (s.setCart v).breakpoint = s.breakpoint := rfl
@[simp] theorem State.setCart_breakFlag (v : Option Cartridge) : (s.setCart v).breakFlag = s.breakFlag := rfl
@[simp] theorem State.setCart_slotsDone (v : Option Cartridge) : (s.setCart v).slotsDone = s.slotsDone := rfl
@[simp] theorem State.setCart_serialOut (v : Option Cartridge) : (s.setCart v).serialOut = s.serialOut := rfl
@[simp] theorem State.setCart_traceOut (v : Option Cartridge) : (s.setCart v).traceOut = s.traceOut := rfl
@[simp] theorem State.setCart_cfg (v : Option Cartridge) : (s.setCart v).cfg = s.cfg := rfl
@[simp] theorem State.setCart_inBatch (v : Option Cartridge) : (s.setCart v).inBatch = s.inBatch := rfl
@[simp] theorem State.setCart_hostScript (v : Option Cartridge) : (s.setCart v).hostScript = s.hostScript := rfl
@[simp] theorem State.setCart_pc0 (v : Option Cartridge) : (s.setCart v).pc0 = s.pc0 := rfl

/-! ### setRing -/

@[simp] theorem State.setRing_cpu (v : SaveRing) : (s.setRing v).cpu = s.cpu := rfl
@[simp] theorem State.setRing_mem (v : SaveRing) : (s.setRing v).mem = s.mem := rfl
@[simp] theorem State.setRing_lcd (v : SaveRing) : (s.setRing v).lcd = s.lcd := rfl
@[simp] theorem State.setRing_timer (v : SaveRing) : (s.setRing v).timer = s.timer := rfl
@[simp] theorem State.setRing_framebuffer (v : SaveRing) : (s.setRing v).framebuffer = s.framebuffer := rfl
@[simp] theorem State.setRing_joypad (v : SaveRing) : (s.setRing v).joypad = s.joypad := rfl
@[simp] theorem State.setRing_cart (v : SaveRing) : (s.setRing v).cart = s.cart := rfl
@[simp] theorem State.setRing_ring (v : SaveRing) : (s.setRing v).ring = v := rfl
@[simp] theorem State.setRing_runState (v : SaveRing) : (s.setRing v).runState = s.runState := rfl
@[simp] theorem State.setRing_breakpoint (v : SaveRing) : (s.setRing v).breakpoint = s.breakpoint := rfl
@[simp] theorem State.setRing_breakFlag (v : SaveRing) : (s.setRing v).breakFlag = s.breakFlag := rfl
@[simp] theorem State.setRing_slotsDone (v : SaveRing) : (s.setRing v).slotsDone = s.slotsDone := rfl
@[simp] theorem State.setRing_serialOut (v : SaveRing) : (s.setRing v).serialOut = s.serialOut := rfl
@[simp] theorem State.setRing_traceOut (v : SaveRing) : (s.setRing v).traceOut = s.traceOut := rfl
@[simp] theorem State.setRing_cfg (v : SaveRing) : (s.setRing v).cfg = s.cfg := rfl
@[simp] theorem State.setRing_inBatch (v : SaveRing) : (s.setRing v).inBatch = s.inBatch := rfl
@[simp] theorem State.setRing_hostScript (v : SaveRing) : (s.setRing v).hostScript = s.hostScript := rfl
@[simp] theorem State.setRing_pc0 (v : SaveRing) : (s.setRing v).pc0 = s.pc0 := rfl

/-! ### setRunState -/

@[simp] theorem State.setRunState_cpu (v : RunState) : (s.setRunState v).cpu = s.cpu := rfl
@[simp] theorem State.setRunState_mem (v : RunState) : (s.setRunState v).mem = s.mem := rfl
@[simp] theorem State.setRunState_lcd (v : RunState) : (s.setRunState v).lcd = s.lcd := rfl
@[simp] theorem State.setRunState_timer (v : RunState) : (s.setRunState v).timer = s.timer := rfl
@[simp] theorem State.setRunState_framebuffer (v : RunState) : (s.setRunState v).framebuffer = s.framebuffer := rfl
@[simp] theorem State.setRunState_joypad (v : RunState) : (s.setRunState v).joypad = s.joypad := rfl
@[simp] theorem State.setRunState_cart (v : RunState) : (s.setRunState v).cart = s.cart := rfl
@[simp] theorem State.setRunState_ring (v : RunState) : (s.setRunState v).ring = s.ring := rfl
@[simp] theorem State.setRunState_runState (v : RunState) : (s.setRunState v).runState = v := rfl
@[simp] theorem State.setRunState_breakpoint (v : RunState) : (s.setRunState v).breakpoint = s.breakpoint := rfl
@[simp] theorem State.setRunState_breakFlag (v : RunState) : (s.setRunState v).breakFlag = s.breakFlag := rfl
@[simp] theorem State.setRunState_slotsDone (v : RunState) : (s.setRunState v).slotsDone = s.slotsDone := rfl
@[simp] theorem State.setRunState_serialOut (v : RunState) : (s.setRunState v).serialOut = s.serialOut := rfl
@[simp] theorem State.setRunState_traceOut (v : RunState) : (s.setRunState v).traceOut = s.traceOut := rfl
@[simp] theorem State.setRunState_cfg (v : RunState) : (s.setRunState v).cfg = s.cfg := rfl
@[simp] theorem State.setRunState_inBatch (v : RunState) : (s.setRunState v).inBatch = s.inBatch := rfl
@[simp] theorem State.setRunState_hostScript (v : RunState) : (s.setRunState v).hostScript = s.hostScript := rfl
@[simp] theorem State.setRunState_pc0 (v : RunState) : (s.setRunState v).pc0 = s.pc0 := rfl

/-! ### setBreakpoint -/

@[simp] theorem State.setBreakpoint_cpu (v : Option Word) : (s.setBreakpoint v).cpu = s.cpu := rfl
@[simp] theorem State.setBreakpoint_mem (v : Option Word) : (s.setBreakpoint v).mem = s.mem := rfl
@[simp] theorem State.setBreakpoint_lcd (v : Option Word) : (s.setBreakpoint v).lcd = s.lcd := rfl
@[simp] theorem State.setBreakpoint_timer (v : Option Word) : (s.setBreakpoint v).timer = s.timer := rfl
@[simp] theorem State.setBreakpoint_framebuffer (v : Option Word) : (s.setBreakpoint v).framebuffer = s.framebuffer := rfl
@[simp] theorem State.setBreakpoint_joypad (v : Option Word) : (s.setBreakpoint v).joypad = s.joypad := rfl
@[simp] theorem State.setBreakpoint_cart (v : Option Word) : (s.setBreakpoint v).cart = s.cart := rfl
@[simp] theorem State.setBreakpoint_ring (v : Option Word) : (s.setBreakpoint v).ring = s.ring := rfl
@[simp] theorem State.setBreakpoint_runState (v : Option Word) : (s.setBreakpoint v).runState = s.runState := rfl
@[simp] theorem State.setBreakpoint_breakpoint (v : Option Word) : (s.setBreakpoint v).breakpoint = v := rfl
@[simp] theorem State.setBreakpoint_breakFlag (v : Option Word) : (s.setBreakpoint v).breakFlag = s.breakFlag := rfl
@[simp] theorem State.setBreakpoint_slotsDone (v : Option Word) : (s.setBreakpoint v).slotsDone = s.slotsDone := rfl
@[simp] theorem State.setBreakpoint_serialOut (v : Option Word) : (s.setBreakpoint v).serialOut = s.serialOut := rfl
@[simp] theorem State.setBreakpoint_traceOut (v : Option Word) : (s.setBreakpoint v).traceOut = s.traceOut := rfl
@[simp] theorem State.setBreakpoint_cfg (v : Option Word) : (s.setBreakpoint v).cfg = s.cfg := rfl
@[simp] theorem State.setBreakpoint_inBatch (v : Option Word) : (s.setBreakpoint v).inBatch = s.inBatch := rfl
@[simp] theorem State.setBreakpoint_hostScript (v : Option Word) : (s.setBreakpoint v).hostScript = s.hostScript := rfl
@[simp] theorem State.setBreakpoint_pc0 (v : Option Word) : (s.setBreakpoint v).pc0 = s.pc0 := rfl

/-! ### setBreakFlag -/

@[simp] theorem State.setBreakFlag_cpu (v : Bool) : (s.setBreakFlag v).cpu = s.cpu := rfl
@[simp] theorem State.setBreakFlag_mem (v : Bool) : (s.setBreakFlag v).mem = s.mem := rfl
@[simp] theorem State.setBreakFlag_lcd (v : Bool) : (s.setBreakFlag v).lcd = s.lcd := rfl
@[simp] theorem State.setBreakFlag_timer (v : Bool) : (s.setBreakFlag v).timer = s.timer := rfl
@[simp] theorem State.setBreakFlag_framebuffer (v : Bool) : (s.setBreakFlag v).framebuffer = s.framebuffer := rfl
@[simp] theorem State.setBreakFlag_joypad (v : Bool) : (s.setBreakFlag v).joypad = s.joypad := rfl
@[simp] theorem State.setBreakFlag_cart (v : Bool) : (s.setBreakFlag v).cart = s.cart := rfl
@[simp] theorem State.setBreakFlag_ring (v : Bool) : (s.setBreakFlag v).ring = s.ring := rfl
@[simp] theorem State.setBreakFlag_runState (v : Bool) : (s.setBreakFlag v).runState = s.runState := rfl
@[simp] theorem State.setBreakFlag_breakpoint (v : Bool) : (s.setBreakFlag v).breakpoint = s.breakpoint := rfl
@[simp] theorem State.setBreakFlag_breakFlag (v : Bool) : (s.setBreakFlag v).breakFlag = v := rfl
@[simp] theorem State.setBreakFlag_slotsDone (v : Bool) : (s.setBreakFlag v).slotsDone = s.slotsDone := rfl
@[simp] theorem State.setBreakFlag_serialOut (v : Bool) : (s.setBreakFlag v).serialOut = s.serialOut := rfl
@[simp] theorem State.setBreakFlag_traceOut (v : Bool) : (s.setBreakFlag v).traceOut = s.traceOut := rfl
@[simp] theorem State.setBreakFlag_cfg (v : Bool) : (s.setBreakFlag v).cfg = s.cfg := rfl
@[simp] theorem State.setBreakFlag_inBatch (v : Bool) : (s.setBreakFlag v).inBatch = s.inBatch := rfl
@[simp] theorem State.setBreakFlag_hostScript (v : Bool) : (s.setBreakFlag v).hostScript = s.hostScript := rfl
@[simp] theorem State.setBreakFlag_pc0 (v : Bool) : (s.setBreakFlag v).pc0 = s.pc0 := rfl

/-! ### setSlotsDone -/

@[simp] theorem State.setSlotsDone_cpu (v : Nat) : (s.setSlotsDone v).cpu = s.cpu := rfl
@[simp] theorem State.setSlotsDone_mem (v : Nat) : (s.setSlotsDone v).mem = s.mem := rfl
@[simp] theorem State.setSlotsDone_lcd (v : Nat) : (s.setSlotsDone v).lcd = s.lcd := rfl
@[simp] theorem State.setSlotsDone_timer (v : Nat) : (s.setSlotsDone v).timer = s.timer := rfl
@[simp] theorem State.setSlotsDone_framebuffer (v : Nat) : (s.setSlotsDone v).framebuffer = s.framebuffer := rfl
@[simp] theorem State.setSlotsDone_joypad (v : Nat) : (s.setSlotsDone v).joypad = s.joypad := rfl
@[simp] theorem State.setSlotsDone_cart (v : Nat) : (s.setSlotsDone v).cart = s.cart := rfl
@[simp] theorem State.setSlotsDone_ring (v : Nat) : (s.setSlotsDone v).ring = s.ring := rfl
@[simp] theorem State.setSlotsDone_runState (v : Nat) : (s.setSlotsDone v).runState = s.runState := rfl
@[simp] theorem State.setSlotsDone_breakpoint (v : Nat) : (s.setSlotsDone v).breakpoint = s.breakpoint := rfl
@[simp] theorem State.setSlotsDone_breakFlag (v : Nat) : (s.setSlotsDone v).breakFlag = s.breakFlag := rfl
@[simp] theorem State.setSlotsDone_slotsDone (v : Nat) : (s.setSlotsDone v).slotsDone = v := rfl
@[simp] theorem State.setSlotsDone_serialOut (v : Nat) : (s.setSlotsDone v).serialOut = s.serialOut := rfl
@[simp] theorem State.setSlotsDone_traceOut (v : Nat) : (s.setSlotsDone v).traceOut = s.traceOut := rfl
@[simp] theorem State.setSlotsDone_cfg (v : Nat) : (s.setSlotsDone v).cfg = s.cfg := rfl
@[simp] theorem State.setSlotsDone_inBatch (v : Nat) : (s.setSlotsDone v).inBatch = s.inBatch := rfl
@[simp] theorem State.setSlotsDone_hostScript (v : Nat) : (s.setSlotsDone v).hostScript = s.hostScript := rfl
@[simp] theorem State.setSlotsDone_pc0 (v : Nat) : (s.setSlotsDone v).pc0 = s.pc0 := rfl

/-! ### setSerialOut -/

@[simp] theorem State.setSerialOut_cpu (v : List Byte) : (s.setSerialOut v).cpu = s.cpu := rfl
@[simp] theorem State.setSerialOut_mem (v : List Byte) : (s.setSerialOut v).mem = s.mem := rfl
@[simp] theorem State.setSerialOut_lcd (v : List Byte) : (s.setSerialOut v).lcd = s.lcd := rfl
@[simp] theorem State.setSerialOut_timer (v : List Byte) : (s.setSerialOut v).timer = s.timer := rfl
@[simp] theorem State.setSerialOut_framebuffer (v : List Byte) : (s.setSerialOut v).framebuffer = s.framebuffer := rfl
@[simp] theorem State.setSerialOut_joypad (v : List Byte) : (s.setSerialOut v).joypad = s.joypad := rfl
@[simp] theorem State.setSerialOut_cart (v : List Byte) : (s.setSerialOut v).cart = s.cart := rfl
@[simp] theorem State.setSerialOut_ring (v : List Byte) : (s.setSerialOut v).ring = s.ring := rfl
@[simp] theorem State.setSerialOut_runState (v : List Byte) : (s.setSerialOut v).runState = s.runState := rfl
@[simp] theorem State.setSerialOut_breakpoint (v : List Byte) : (s.setSerialOut v).breakpoint = s.breakpoint := rfl
@[simp] theorem State.setSerialOut_breakFlag (v : List Byte) : (s.setSerialOut v).breakFlag = s.breakFlag := rfl
@[simp] theorem State.setSerialOut_slotsDone (v : List Byte) : (s.setSerialOut v).slotsDone = s.slotsDone := rfl
@[simp] theorem State.setSerialOut_serialOut (v : List Byte) : (s.setSerialOut v).serialOut = v := rfl
@[simp] theorem State.setSerialOut_traceOut (v : List Byte) : (s.setSerialOut v).traceOut = s.traceOut := rfl
@[simp] theorem State.setSerialOut_cfg (v : List Byte) : (s.setSerialOut v).cfg = s.cfg := rfl
@[simp] theorem State.setSerialOut_inBatch (v : List Byte) : (s.setSerialOut v).inBatch = s.inBatch := rfl
@[simp] theorem State.setSerialOut_hostScript (v : List Byte) : (s.setSerialOut v).hostScript = s.hostScript := rfl
@[simp] theorem State.setSerialOut_pc0 (v : List Byte) : (s.setSerialOut v).pc0 = s.pc0 := rfl

/-! ### setTraceOut -/

@[simp] theorem State.setTraceOut_cpu (v : List TraceLine) : (s.setTraceOut v).cpu = s.cpu := rfl
@[simp] theorem State.setTraceOut_mem (v : List TraceLine) : (s.setTraceOut v).mem = s.mem := rfl
@[simp] theorem State.setTraceOut_lcd (v : List TraceLine) : (s.setTraceOut v).lcd = s.lcd := rfl
@[simp] theorem State.setTraceOut_timer (v : List TraceLine) : (s.setTraceOut v).timer = s.timer := rfl
@[simp] theorem State.setTraceOut_framebuffer (v : List TraceLine) : (s.setTraceOut v).framebuffer = s.framebuffer := rfl
@[simp] theorem State.setTraceOut_joypad (v : List TraceLine) : (s.setTraceOut v).joypad = s.joypad := rfl
@[simp] theorem State.setTraceOut_cart (v : List TraceLine) : (s.setTraceOut v).cart = s.cart := rfl
@[simp] theorem State.setTraceOut_ring (v : List TraceLine) : (s.setTraceOut v).ring = s.ring := rfl
@[simp] theorem State.setTraceOut_runState (v : List TraceLine) : (s.setTraceOut v).runState = s.runState := rfl
@[simp] theorem State.setTraceOut_breakpoint (v : List TraceLine) : (s.setTraceOut v).breakpoint = s.breakpoint := rfl
@[simp] theorem State.setTraceOut_breakFlag (v : List TraceLine) : (s.setTraceOut v).breakFlag = s.breakFlag := rfl
@[simp] theorem State.setTraceOut_slotsDone (v : List TraceLine) : (s.setTraceOut v).slotsDone = s.slotsDone := rfl
@[simp] theorem State.setTraceOut_serialOut (v : List TraceLine) : (s.setTraceOut v).serialOut = s.serialOut := rfl
@[simp] theorem State.setTraceOut_traceOut (v : List TraceLine) : (s.setTraceOut v).traceOut = v := rfl
@[simp] theorem State.setTraceOut_cfg (v : List TraceLine) : (s.setTraceOut v).cfg = s.cfg := rfl
@[simp] theorem State.setTraceOut_inBatch (v : List TraceLine) : (s.setTraceOut v).inBatch = s.inBatch := rfl
@[simp] theorem State.setTraceOut_hostScript (v : List TraceLine) : (s.setTraceOut v).hostScript = s.hostScript := rfl
@[simp] theorem State.setTraceOut_pc0 (v : List TraceLine) : (s.setTraceOut v).pc0 = s.pc0 := rfl

/-! ### setInBatch -/

@[simp] theorem State.setInBatch_cpu (v : Bool) : (s.setInBatch v).cpu = s.cpu := rfl
@[simp] theorem State.setInBatch_mem (v : Bool) : (s.setInBatch v).mem = s.mem := rfl
@[simp] theorem State.setInBatch_lcd (v : Bool) : (s.setInBatch v).lcd = s.lcd := rfl
@[simp] theorem State.setInBatch_timer (v : Bool) : (s.setInBatch v).timer = s.timer := rfl
@[simp] theorem State.setInBatch_framebuffer (v : Bool) : (s.setInBatch v).framebuffer = s.framebuffer := rfl
@[simp] theorem State.setInBatch_joypad (v : Bool) : (s.setInBatch v).joypad = s.joypad := rfl
@[simp] theorem State.setInBatch_cart (v : Bool) : (s.setInBatch v).cart = s.cart := rfl
@[simp] theorem State.setInBatch_ring (v : Bool) : (s.setInBatch v).ring = s.ring := rfl
@[simp] theorem State.setInBatch_runState (v : Bool) : (s.setInBatch v).runState = s.runState := rfl
@[simp] theorem State.setInBatch_breakpoint (v : Bool) : (s.setInBatch v).breakpoint = s.breakpoint := rfl
@[simp] theorem State.setInBatch_breakFlag (v : Bool) : (s.setInBatch v).breakFlag = s.breakFlag := rfl
@[simp] theorem State.setInBatch_slotsDone (v : Bool) : (s.setInBatch v).slotsDone = s.slotsDone := rfl
@[simp] theorem State.setInBatch_serialOut (v : Bool) : (s.setInBatch v).serialOut = s.serialOut := rfl
@[simp] theorem State.setInBatch_traceOut (v : Bool) : (s.setInBatch v).traceOut = s.traceOut := rfl
@[simp] theorem State.setInBatch_cfg (v : Bool) : (s.setInBatch v).cfg = s.cfg := rfl
@[simp] theorem State.setInBatch_inBatch (v : Bool) : (s.setInBatch v).inBatch = v := rfl
@[simp] theorem State.setInBatch_hostScript (v : Bool) : (s.setInBatch v).hostScript = s.hostScript := rfl
@[simp] theorem State.setInBatch_pc0 (v : Bool) : (s.setInBatch v).pc0 = s.pc0 := rfl

/-! ### setHostScript -/

@[simp] theorem State.setHostScript_cpu (v : List (List HostAction)) : (s.setHostScript v).cpu = s.cpu := rfl
@[simp] theorem State.setHostScript_mem (v : List (List HostAction)) : (s.setHostScript v).mem = s.mem := rfl
@[simp] theorem State.setHostScript_lcd (v : List (List HostAction)) : (s.setHostScript v).lcd = s.lcd := rfl
@[simp] theorem State.setHostScript_timer (v : List (List HostAction)) : (s.setHostScript v).timer = s.timer := rfl
@[simp] theorem State.setHostScript_framebuffer (v : List (List HostAction)) : (s.setHostScript v).framebuffer = s.framebuffer := rfl
@[simp] theorem State.setHostScript_joypad (v : List (List HostAction)) : (s.setHostScript v).joypad = s.joypad := rfl
@[simp] theorem State.setHostScript_cart (v : List (List HostAction)) : (s.setHostScript v).cart = s.cart := rfl
@[simp] theorem State.setHostScript_ring (v : List (List HostAction)) : (s.setHostScript v).ring = s.ring := rfl
@[simp] theorem State.setHostScript_runState (v : List (List HostAction)) : (s.setHostScript v).runState = s.runState := rfl
@[simp] theorem State.setHostScript_breakpoint (v : List (List HostAction)) : (s.setHostScript v).breakpoint = s.breakpoint := rfl
@[simp] theorem State.setHostScript_breakFlag (v : List (List HostAction)) : (s.setHostScript v).breakFlag = s.breakFlag := rfl
@[simp] theorem State.setHostScript_slotsDone (v : List (List HostAction)) : (s.setHostScript v).slotsDone = s.slotsDone := rfl
@[simp] theorem State.setHostScript_serialOut (v : List (List HostAction)) : (s.setHostScript v).serialOut = s.serialOut := rfl
@[simp] theorem State.setHostScript_traceOut (v : List (List HostAction)) : (s.setHostScript v).traceOut = s.traceOut := rfl
@[simp] theorem State.setHostScript_cfg (v : List (List HostAction)) : (s.setHostScript v).cfg = s.cfg := rfl
@[simp] theorem State.setHostScript_inBatch (v : List (List HostAction)) : (s.setHostScript v).inBatch = s.inBatch := rfl
@[simp] theorem State.setHostScript_hostScript (v : List (List HostAction)) : (s.setHostScript v).hostScript = v := rfl
@[simp] theorem State.setHostScript_pc0 (v : List (List HostAction)) : (s.setHostScript v).pc0 = s.pc0 := rfl

/-! ### setPc0 -/

@[simp] theorem State.setPc0_cpu (v : Word) : (s.setPc0 v).cpu = s.cpu := rfl
@[simp] theorem State.setPc0_mem (v : Word) : (s.setPc0 v).mem = s.mem := rfl
@[simp] theorem State.setPc0_lcd (v : Word) : (s.setPc0 v).lcd = s.lcd := rfl
@[simp] theorem State.setPc0_timer (v : Word) : (s.setPc0 v).timer = s.timer := rfl
@[simp] theorem State.setPc0_framebuffer (v : Word) : (s.setPc0 v).framebuffer = s.framebuffer := rfl
@[simp] theorem State.setPc0_joypad (v : Word) : (s.setPc0 v).joypad = s.joypad := rfl
@[simp] theorem State.setPc0_cart (v : Word) : (s.setPc0 v).cart = s.cart := rfl
@[simp] theorem State.setPc0_ring (v : Word) : (s.setPc0 v).ring = s.ring := rfl
@[simp] theorem State.setPc0_runState (v : Word) : (s.setPc0 v).runState = s.runState := rfl
@[simp] theorem State.setPc0_breakpoint (v : Word) : (s.setPc0 v).breakpoint = s.breakpoint := rfl
@[simp] theorem State.setPc0_breakFlag (v : Word) : (s.setPc0 v).breakFlag = s.breakFlag := rfl
@[simp] theorem State.setPc0_slotsDone (v : Word) : (s.setPc0 v).slotsDone = s.slotsDone := rfl
@[simp] theorem State.setPc0_serialOut (v : Word) : (s.setPc0 v).serialOut = s.serialOut := rfl
@[simp] theorem State.setPc0_traceOut (v : Word) : (s.setPc0 v).traceOut = s.traceOut := rfl
@[simp] theorem State.setPc0_cfg (v : Word) : (s.setPc0 v).cfg = s.cfg := rfl
@[simp] theorem State.setPc0_inBatch (v : Word) : (s.setPc0 v).inBatch = s.inBatch := rfl
@[simp] theorem State.setPc0_hostScript (v : Word) : (s.setPc0 v).hostScript = s.hostScript := rfl
@[simp] theorem State.setPc0_pc0 (v : Word) : (s.setPc0 v).pc0 = v := rfl

/-! ### setAf -/

@[simp] theorem State.setAf_cpu_af (v : Word) : (s.setAf v).cpu.af = v := rfl
@[simp] theorem State.setAf_cpu_bc (v : Word) : (s.setAf v).cpu.bc = s.cpu.bc := rfl
@[simp] theorem State.setAf_cpu_de (v : Word) : (s.setAf v).cpu.de = s.cpu.de := rfl
@[simp] theorem State.setAf_cpu_hl (v : Word) : (s.setAf v).cpu.hl = s.cpu.hl := rfl
@[simp] theorem State.setAf_cpu_sp (v : Word) : (s.setAf v).cpu.sp = s.cpu.sp := rfl
@[simp] theorem State.setAf_cpu_pc (v : Word) : (s.setAf v).cpu.pc = s.cpu.pc := rfl
@[simp] theorem State.setAf_cpu_ime (v : Word) : (s.setAf v).cpu.ime = s.cpu.ime := rfl
@[simp] theorem State.setAf_cpu_prefixOp (v : Word) : (s.setAf v).cpu.prefixOp = s.cpu.prefixOp := rfl
@[simp] theorem State.setAf_mem (v : Word) : (s.setAf v).mem = s.mem := rfl
@[simp] theorem State.setAf_lcd (v : Word) : (s.setAf v).lcd = s.lcd := rfl
@[simp] theorem State.setAf_timer (v : Word) : (s.setAf v).timer = s.timer := rfl
@[simp] theorem State.setAf_framebuffer (v : Word) : (s.setAf v).framebuffer = s.framebuffer := rfl
@[simp] theorem State.setAf_joypad (v : Word) : (s.setAf v).joypad = s.joypad := rfl
@[simp] theorem State.setAf_cart (v : Word) : (s.setAf v).cart = s.cart := rfl
@[simp] theorem State.setAf_ring (v : Word) : (s.setAf v).ring = s.ring := rfl
@[simp] theorem State.setAf_runState (v : Word) : (s.setAf v).runState = s.runState := rfl
@[simp] theorem State.setAf_breakpoint (v : Word) : (s.setAf v).breakpoint = s.breakpoint := rfl
@[simp] theorem State.setAf_breakFlag (v : Word) : (s.setAf v).breakFlag = s.breakFlag := rfl
@[simp] theorem State.setAf_slotsDone (v : Word) : (s.setAf v).slotsDone = s.slotsDone := rfl
@[simp] theorem State.setAf_serialOut (v : Word) : (s.setAf v).serialOut = s.serialOut := rfl
@[simp] theorem State.setAf_traceOut (v : Word) : (s.setAf v).traceOut = s.traceOut := rfl
@[simp] theorem State.setAf_cfg (v : Word) : (s.setAf v).cfg = s.cfg := rfl
@[simp] theorem State.setAf_inBatch (v : Word) : (s.setAf v).inBatch = s.inBatch := rfl
@[simp] theorem State.setAf_hostScript (v : Word) : (s.setAf v).hostScript = s.hostScript := rfl
@[simp] theorem State.setAf_pc0 (v : Word) : (s.setAf v).pc0 = s.pc0 := rfl

/-! ### setBc -/

@[simp] theorem State.setBc_cpu_af (v : Word) : (s.setBc v).cpu.af = s.cpu.af := rfl
@[simp] theorem State.setBc_cpu_bc (v : Word) : (s.setBc v).cpu.bc = v := rfl
@[simp] theorem State.setBc_cpu_de (v : Word) : (s.setBc v).cpu.de = s.cpu.de := rfl
@[simp] theorem State.setBc_cpu_hl (v : Word) : (s.setBc v).cpu.hl = s.cpu.hl := rfl
@[simp] theorem State.setBc_cpu_sp (v : Word) : (s.setBc v).cpu.sp = s.cpu.sp := rfl
@[simp] theorem State.setBc_cpu_pc (v : Word) : (s.setBc v).cpu.pc = s.cpu.pc := rfl
@[simp] theorem State.setBc_cpu_ime (v : Word) : (s.setBc v).cpu.ime = s.cpu.ime := rfl
@[simp] theorem State.setBc_cpu_prefixOp (v : Word) : (s.setBc v).cpu.prefixOp = s.cpu.prefixOp := rfl
@[simp] theorem State.setBc_mem (v : Word) : (s.setBc v).mem = s.mem := rfl
@[simp] theorem State.setBc_lcd (v : Word) : (s.setBc v).lcd = s.lcd := rfl
@[simp] theorem State.setBc_timer (v : Word) : (s.setBc v).timer = s.timer := rfl
@[simp] theorem State.setBc_framebuffer (v : Word) : (s.setBc v).framebuffer = s.framebuffer := rfl
@[simp] theorem State.setBc_joypad (v : Word) : (s.setBc v).joypad = s.joypad := rfl
@[simp] theorem State.setBc_cart (v : Word) : (s.setBc v).cart = s.cart := rfl
@[simp] theorem State.setBc_ring (v : Word) : (s.setBc v).ring = s.ring := rfl
@[simp] theorem State.setBc_runState (v : Word) : (s.setBc v).runState = s.runState := rfl
@[simp] theorem State.setBc_breakpoint (v : Word) : (s.setBc v).breakpoint = s.breakpoint := rfl
@[simp] theorem State.setBc_breakFlag (v : Word) : (s.setBc v).breakFlag = s.breakFlag := rfl
@[simp] theorem State.setBc_slotsDone (v : Word) : (s.setBc v).slotsDone = s.slotsDone := rfl
@[simp] theorem State.setBc_serialOut (v : Word) : (s.setBc v).serialOut = s.serialOut := rfl
@[simp] theorem State.setBc_traceOut (v : Word) : (s.setBc v).traceOut = s.traceOut := rfl
@[simp] theorem State.setBc_cfg (v : Word) : (s.setBc v).cfg = s.cfg := rfl
@[simp] theorem State.setBc_inBatch (v : Word) : (s.setBc v).inBatch = s.inBatch := rfl
@[simp] theorem State.setBc_hostScript (v : Word) : (s.setBc v).hostScript = s.hostScript := rfl
@[simp] theorem State.setBc_pc0 (v : Word) : (s.setBc v).pc0 = s.pc0 := rfl

/-! ### setDe -/

@[simp] theorem State.setDe_cpu_af (v : Word) : (s.setDe v).cpu.af = s.cpu.af := rfl
@[simp] theorem State.setDe_cpu_bc (v : Word) : (s.setDe v).cpu.bc = s.cpu.bc := rfl
@[simp] theorem State.setDe_cpu_de (v : Word) : (s.setDe v).cpu.de = v := rfl
@[simp] theorem State.setDe_cpu_hl (v : Word) : (s.setDe v).cpu.hl = s.cpu.hl := rfl
@[simp] theorem State.setDe_cpu_sp (v : Word) : (s.setDe v).cpu.sp = s.cpu.sp := rfl
@[simp] theorem State.setDe_cpu_pc (v : Word) : (s.setDe v).cpu.pc = s.cpu.pc := rfl
@[simp] theorem State.setDe_cpu_ime (v : Word) : (s.setDe v).cpu.ime = s.cpu.ime := rfl
@[simp] theorem State.setDe_cpu_prefixOp (v : Word) : (s.setDe v).cpu.prefixOp = s.cpu.prefixOp := rfl
@[simp] theorem State.setDe_mem (v : Word) : (s.setDe v).mem = s.mem := rfl
@[simp] theorem State.setDe_lcd (v : Word) : (s.setDe v).lcd = s.lcd := rfl
@[simp] theorem State.setDe_timer (v : Word) : (s.setDe v).timer = s.timer := rfl
@[simp] theorem State.setDe_framebuffer (v : Word) : (s.setDe v).framebuffer = s.framebuffer := rfl
@[simp] theorem State.setDe_joypad (v : Word) : (s.setDe v).joypad = s.joypad := rfl
@[simp] theorem State.setDe_cart (v : Word) : (s.setDe v).cart = s.cart := rfl
@[simp] theorem State.setDe_ring (v : Word) : (s.setDe v).ring = s.ring := rfl
@[simp] theorem State.setDe_runState (v : Word) : (s.setDe v).runState = s.runState := rfl
@[simp] theorem State.setDe_breakpoint (v : Word) : (s.setDe v).breakpoint = s.breakpoint := rfl
@[simp] theorem State.setDe_breakFlag (v : Word) : (s.setDe v).breakFlag = s.breakFlag := rfl
@[simp] theorem State.setDe_slotsDone (v : Word) : (s.setDe v).slotsDone = s.slotsDone := rfl
@[simp] theorem State.setDe_serialOut (v : Word) : (s.setDe v).serialOut = s.serialOut := rfl
@[simp] theorem State.setDe_traceOut (v : Word) : (s.setDe v).traceOut = s.traceOut := rfl
@[simp] theorem State.setDe_cfg (v : Word) : (s.setDe v).cfg = s.cfg := rfl
@[simp] theorem State.setDe_inBatch (v : Word) : (s.setDe v).inBatch = s.inBatch := rfl
@[simp] theorem State.setDe_hostScript (v : Word) : (s.setDe v).hostScript = s.hostScript := rfl
@[simp] theorem State.setDe_pc0 (v : Word) : (s.setDe v).pc0 = s.pc0 := rfl

/-! ### setHl -/

@[simp] theorem State.setHl_cpu_af (v : Word) : (s.setHl v).cpu.af = s.cpu.af := rfl
@[simp] theorem State.setHl_cpu_bc (v : Word) : (s.setHl v).cpu.bc = s.cpu.bc := rfl
@[simp] theorem State.setHl_cpu_de (v : Word) : (s.setHl v).cpu.de = s.cpu.de := rfl
@[simp] theorem State.setHl_cpu_hl (v : Word) : (s.setHl v).cpu.hl = v := rfl
@[simp] theorem State.setHl_cpu_sp (v : Word) : (s.setHl v).cpu.sp = s.cpu.sp := rfl
@[simp] theorem State.setHl_cpu_pc (v : Word) : (s.setHl v).cpu.pc = s.cpu.pc := rfl
@[simp] theorem State.setHl_cpu_ime (v : Word) : (s.setHl v).cpu.ime = s.cpu.ime := rfl
@[simp] theorem State.setHl_cpu_prefixOp (v : Word) : (s.setHl v).cpu.prefixOp = s.cpu.prefixOp := rfl
@[simp] theorem State.setHl_mem (v : Word) : (s.setHl v).mem = s.mem := rfl
@[simp] theorem State.setHl_lcd (v : Word) : (s.setHl v).lcd = s.lcd := rfl
@[simp] theorem State.setHl_timer (v : Word) : (s.setHl v).timer = s.timer := rfl
@[simp] theorem State.setHl_framebuffer (v : Word) : (s.setHl v).framebuffer = s.framebuffer := rfl
@[simp] theorem State.setHl_joypad (v : Word) : (s.setHl v).joypad = s.joypad := rfl
@[simp] theorem State.setHl_cart (v : Word) : (s.setHl v).cart = s.cart := rfl
@[simp] theorem State.setHl_ring (v : Word) : (s.setHl v).ring = s.ring := rfl
@[simp] theorem State.setHl_runState (v : Word) : (s.setHl v).runState = s.runState := rfl
@[simp] theorem State.setHl_breakpoint (v : Word) : (s.setHl v).breakpoint = s.breakpoint := rfl
@[simp] theorem State.setHl_breakFlag (v : Word) : (s.setHl v).breakFlag = s.breakFlag := rfl
@[simp] theorem State.setHl_slotsDone (v : Word) : (s.setHl v).slotsDone = s.slotsDone := rfl
@[simp] theorem State.setHl_serialOut (v : Word) : (s.setHl v).serialOut = s.serialOut := rfl
@[simp] theorem State.setHl_traceOut (v : Word) : (s.setHl v).traceOut = s.traceOut := rfl
@[simp] theorem State.setHl_cfg (v : Word) : (s.setHl v).cfg = s.cfg := rfl
@[simp] theorem State.setHl_inBatch (v : Word) : (s.setHl v).inBatch = s.inBatch := rfl
@[simp] theorem State.setHl_hostScript (v : Word) : (s.setHl v).hostScript = s.hostScript := rfl
@[simp] theorem State.setHl_pc0 (v : Word) : (s.setHl v).pc0 = s.pc0 := rfl

/-! ### setSp -/

@[simp] theorem State.setSp_cpu_af (v : Word) : (s.setSp v).cpu.af = s.cpu.af := rfl
@[simp] theorem State.setSp_cpu_bc (v : Word) : (s.setSp v).cpu.bc = s.cpu.bc := rfl
@[simp] theorem State.setSp_cpu_de (v : Word) : (s.setSp v).cpu.de = s.cpu.de := rfl
@[simp] theorem State.setSp_cpu_hl (v : Word) : (s.setSp v).cpu.hl = s.cpu.hl := rfl
@[simp] theorem State.setSp_cpu_sp (v : Word) : (s.setSp v).cpu.sp = v := rfl
@[simp] theorem State.setSp_cpu_pc (v : Word) : (s.setSp v).cpu.pc = s.cpu.pc := rfl
@[simp] theorem State.setSp_cpu_ime (v : Word) : (s.setSp v).cpu.ime = s.cpu.ime := rfl
@[simp] theorem State.setSp_cpu_prefixOp (v : Word) : (s.setSp v).cpu.prefixOp = s.cpu.prefixOp := rfl
@[simp] theorem State.setSp_mem (v : Word) : (s.setSp v).mem = s.mem := rfl
@[simp] theorem State.setSp_lcd (v : Word) : (s.setSp v).lcd = s.lcd := rfl
@[simp] theorem State.setSp_timer (v : Word) : (s.setSp v).timer = s.timer := rfl
@[simp] theorem State.setSp_framebuffer (v : Word) : (s.setSp v).framebuffer = s.framebuffer := rfl
@[simp] theorem State.setSp_joypad (v : Word) : (s.setSp v).joypad = s.joypad := rfl
@[simp] theorem State.setSp_cart (v : Word) : (s.setSp v).cart = s.cart := rfl
@[simp] theorem State.setSp_ring (v : Word) : (s.setSp v).ring = s.ring := rfl
@[simp] theorem State.setSp_runState (v : Word) : (s.setSp v).runState = s.runState := rfl
@[simp] theorem State.setSp_breakpoint (v : Word) : (s.setSp v).breakpoint = s.breakpoint := rfl
@[simp] theorem State.setSp_breakFlag (v : Word) : (s.setSp v).breakFlag = s.breakFlag := rfl
@[simp] theorem State.setSp_slotsDone (v : Word) : (s.setSp v).slotsDone = s.slotsDone := rfl
@[simp] theorem State.setSp_serialOut (v : Word) : (s.setSp v).serialOut = s.serialOut := rfl
@[simp] theorem State.setSp_traceOut (v : Word) : (s.setSp v).traceOut = s.traceOut := rfl
@[simp] theorem State.setSp_cfg (v : Word) : (s.setSp v).cfg = s.cfg := rfl
@[simp] theorem State.setSp_inBatch (v : Word) : (s.setSp v).inBatch = s.inBatch := rfl
@[simp] theorem State.setSp_hostScript (v : Word) : (s.setSp v).hostScript = s.hostScript := rfl
@[simp] theorem State.setSp_pc0 (v : Word) : (s.setSp v).pc0 = s.pc0 := rfl

/-! ### setPc -/

@[simp] theorem State.setPc_cpu_af (v : Word) : (s.setPc v).cpu.af = s.cpu.af := rfl
@[simp] theorem State.setPc_cpu_bc (v : Word) : (s.setPc v).cpu.bc = s.cpu.bc := rfl
@[simp] theorem State.setPc_cpu_de (v : Word) : (s.setPc v).cpu.de = s.cpu.de := rfl
@[simp] theorem State.setPc_cpu_hl (v : Word) : (s.setPc v).cpu.hl = s.cpu.hl := rfl
@[simp] theorem State.setPc_cpu_sp (v : Word) : (s.setPc v).cpu.sp = s.cpu.sp := rfl
@[simp] theorem State.setPc_cpu_pc (v : Word) : (s.setPc v).cpu.pc = v := rfl
@[simp] theorem State.setPc_cpu_ime (v : Word) : (s.setPc v).cpu.ime = s.cpu.ime := rfl
@[simp] theorem State.setPc_cpu_prefixOp (v : Word) : (s.setPc v).cpu.prefixOp = s.cpu.prefixOp := rfl
@[simp] theorem State.setPc_mem (v : Word) : (s.setPc v).mem = s.mem := rfl
@[simp] theorem State.setPc_lcd (v : Word) : (s.setPc v).lcd = s.lcd := rfl
@[simp] theorem State.setPc_timer (v : Word) : (s.setPc v).timer = s.timer := rfl
@[simp] theorem State.setPc_framebuffer (v : Word) : (s.setPc v).framebuffer = s.framebuffer := rfl
@[simp] theorem State.setPc_joypad (v : Word) : (s.setPc v).joypad = s.joypad := rfl
@[simp] theorem State.setPc_cart (v : Word) : (s.setPc v).cart = s.cart := rfl
@[simp] theorem State.setPc_ring (v : Word) : (s.setPc v).ring = s.ring := rfl
@[simp] theorem State.setPc_runState (v : Word) : (s.setPc v).runState = s.runState := rfl
@[simp] theorem State.setPc_breakpoint (v : Word) : (s.setPc v).breakpoint = s.breakpoint := rfl
@[simp] theorem State.setPc_breakFlag (v : Word) : (s.setPc v).breakFlag = s.breakFlag := rfl
@[simp] theorem State.setPc_slotsDone (v : Word) : (s.setPc v).slotsDone = s.slotsDone := rfl
@[simp] theorem State.setPc_serialOut (v : Word) : (s.setPc v).serialOut = s.serialOut := rfl
@[simp] theorem State.setPc_traceOut (v : Word) : (s.setPc v).traceOut = s.traceOut := rfl
@[simp] theorem State.setPc_cfg (v : Word) : (s.setPc v).cfg = s.cfg := rfl
@[simp] theorem State.setPc_inBatch (v : Word) : (s.setPc v).inBatch = s.inBatch := rfl
@[simp] theorem State.setPc_hostScript (v : Word) : (s.setPc v).hostScript = s.hostScript := rfl
@[simp] theorem State.setPc_pc0 (v : Word) : (s.setPc v).pc0 = s.pc0 := rfl

/-! ### setIme -/

@[simp] theorem State.setIme_cpu_af (v : Bool) : (s.setIme v).cpu.af = s.cpu.af := rfl
@[simp] theorem State.setIme_cpu_bc (v : Bool) : (s.setIme v).cpu.bc = s.cpu.bc := rfl
@[simp] theorem State.setIme_cpu_de (v : Bool) : (s.setIme v).cpu.de = s.cpu.de := rfl
@[simp] theorem State.setIme_cpu_hl (v : Bool) : (s.setIme v).cpu.hl = s.cpu.hl := rfl
@[simp] theorem State.setIme_cpu_sp (v : Bool) : (s.setIme v).cpu.sp = s.cpu.sp := rfl
@[simp] theorem State.setIme_cpu_pc (v : Bool) : (s.setIme v).cpu.pc = s.cpu.pc := rfl
@[simp] theorem State.setIme_cpu_ime (v : Bool) : (s.setIme v).cpu.ime = v := rfl
@[simp] theorem State.setIme_cpu_prefixOp (v : Bool) : (s.setIme v).cpu.prefixOp = s.cpu.prefixOp := rfl
@[simp] theorem State.setIme_mem (v : Bool) : (s.setIme v).mem = s.mem := rfl
@[simp] theorem State.setIme_lcd (v : Bool) : (s.setIme v).lcd = s.lcd := rfl
@[simp] theorem State.setIme_timer (v : Bool) : (s.setIme v).timer = s.timer := rfl
@[simp] theorem State.setIme_framebuffer (v : Bool) : (s.setIme v).framebuffer = s.framebuffer := rfl
@[simp] theorem State.setIme_joypad (v : Bool) : (s.setIme v).joypad = s.joypad := rfl
@[simp] theorem State.setIme_cart (v : Bool) : (s.setIme v).cart = s.cart := rfl
@[simp] theorem State.setIme_ring (v : Bool) : (s.setIme v).ring = s.ring := rfl
@[simp] theorem State.setIme_runState (v : Bool) : (s.setIme v).runState = s.runState := rfl
@[simp] theorem State.setIme_breakpoint (v : Bool) : (s.setIme v).breakpoint = s.breakpoint := rfl
@[simp] theorem State.setIme_breakFlag (v : Bool) : (s.setIme v).breakFlag = s.breakFlag := rfl
@[simp] theorem State.setIme_slotsDone (v : Bool) : (s.setIme v).slotsDone = s.slotsDone := rfl
@[simp] theorem State.setIme_serialOut (v : Bool) : (s.setIme v).serialOut = s.serialOut := rfl
@[simp] theorem State.setIme_traceOut (v : Bool) : (s.setIme v).traceOut = s.traceOut := rfl
@[simp] theorem State.setIme_cfg (v : Bool) : (s.setIme v).cfg = s.cfg := rfl
@[simp] theorem State.setIme_inBatch (v : Bool) : (s.setIme v).inBatch = s.inBatch := rfl
@[simp] theorem State.setIme_hostScript (v : Bool) : (s.setIme v).hostScript = s.hostScript := rfl
@[simp] theorem State.setIme_pc0 (v : Bool) : (s.setIme v).pc0 = s.pc0 := rfl

/-! ### setPrefixOp -/

@[simp] theorem State.setPrefixOp_cpu_af (v : Bool) : (s.setPrefixOp v).cpu.af = s.cpu.af := rfl
@[simp] theorem State.setPrefixOp_cpu_bc (v : Bool) : (s.setPrefixOp v).cpu.bc = s.cpu.bc := rfl
@[simp] theorem State.setPrefixOp_cpu_de (v : Bool) : (s.setPrefixOp v).cpu.de = s.cpu.de := rfl
@[simp] theorem State.setPrefixOp_cpu_hl (v : Bool) : (s.setPrefixOp v).cpu.hl = s.cpu.hl := rfl
@[simp] theorem State.setPrefixOp_cpu_sp (v : Bool) : (s.setPrefixOp v).cpu.sp = s.cpu.sp := rfl
@[simp] theorem State.setPrefixOp_cpu_pc (v : Bool) : (s.setPrefixOp v).cpu.pc = s.cpu.pc := rfl
@[simp] theorem State.setPrefixOp_cpu_ime (v : Bool) : (s.setPrefixOp v).cpu.ime = s.cpu.ime := rfl
@[simp] theorem State.setPrefixOp_cpu_prefixOp (v : Bool) : (s.setPrefixOp v).cpu.prefixOp = v := rfl
@[simp] theorem State.setPrefixOp_mem (v : Bool) : (s.setPrefixOp v).mem = s.mem := rfl
@[simp] theorem State.setPrefixOp_lcd (v : Bool) : (s.setPrefixOp v).lcd = s.lcd := rfl
@[simp] theorem State.setPrefixOp_timer (v : Bool) : (s.setPrefixOp v).timer = s.timer := rfl
@[simp] theorem State.setPrefixOp_framebuffer (v : Bool) : (s.setPrefixOp v).framebuffer = s.framebuffer := rfl
@[simp] theorem State.setPrefixOp_joypad (v : Bool) : (s.setPrefixOp v).joypad = s.joypad := rfl
@[simp] theorem State.setPrefixOp_cart (v : Bool) : (s.setPrefixOp v).cart = s.cart := rfl
@[simp] theorem State.setPrefixOp_ring (v : Bool) : (s.setPrefixOp v).ring = s.ring := rfl
@[simp] theorem State.setPrefixOp_runState (v : Bool) : (s.setPrefixOp v).runState = s.runState := rfl
@[simp] theorem State.setPrefixOp_breakpoint (v : Bool) : (s.setPrefixOp v).breakpoint = s.breakpoint := rfl
@[simp] theorem State.setPrefixOp_breakFlag (v : Bool) : (s.setPrefixOp v).breakFlag = s.breakFlag := rfl
@[simp] theorem State.setPrefixOp_slotsDone (v : Bool) : (s.setPrefixOp v).slotsDone = s.slotsDone := rfl
@[simp] theorem State.setPrefixOp_serialOut (v : Bool) : (s.setPrefixOp v).serialOut = s.serialOut := rfl
@[simp] theorem State.setPrefixOp_traceOut (v : Bool) : (s.setPrefixOp v).traceOut = s.traceOut := rfl
@[simp] theorem State.setPrefixOp_cfg (v : Bool) : (s.setPrefixOp v).cfg = s.cfg := rfl
@[simp] theorem State.setPrefixOp_inBatch (v : Bool) : (s.setPrefixOp v).inBatch = s.inBatch := rfl
@[simp] theorem State.setPrefixOp_hostScript (v : Bool) : (s.setPrefixOp v).hostScript = s.hostScript := rfl
@[simp] theorem State.setPrefixOp_pc0 (v : Bool) : (s.setPrefixOp v).pc0 = s.pc0 := rfl

/-! ### The register-field updates leave the fields outside the CPU alone -/

@[simp] theorem State.setR8_mem (r : R8) (v : Byte) : (s.setR8 r v).mem = s.mem := by cases r <;> rfl
@[simp] theorem State.setR8_lcd (r : R8) (v : Byte) : (s.setR8 r v).lcd = s.lcd := by cases r <;> rfl
@[simp] theorem State.setR8_timer (r : R8) (v : Byte) : (s.setR8 r v).timer = s.timer := by cases r <;> rfl
@[simp] theorem State.setR8_framebuffer (r : R8) (v : Byte) : (s.setR8 r v).framebuffer = s.framebuffer := by cases r <;> rfl
@[simp] theorem State.setR8_joypad (r : R8) (v : Byte) : (s.setR8 r v).joypad = s.joypad := by cases r <;> rfl
@[simp] theorem State.setR8_cart (r : R8) (v : Byte) : (s.setR8 r v).cart = s.cart := by cases r <;> rfl
@[simp] theorem State.setR8_ring (r : R8) (v : Byte) : (s.setR8 r v).ring = s.ring := by cases r <;> rfl
@[simp] theorem State.setR8_runState (r : R8) (v : Byte) : (s.setR8 r v).runState = s.runState := by cases r <;> rfl
@[simp] theorem State.setR8_breakpoint (r : R8) (v : Byte) : (s.setR8 r v).breakpoint = s.breakpoint := by cases r <;> rfl
@[simp] theorem State.setR8_breakFlag (r : R8) (v : Byte) : (s.setR8 r v).breakFlag = s.breakFlag := by cases r <;> rfl
@[simp] theorem State.setR8_slotsDone (r : R8) (v : Byte) : (s.setR8 r v).slotsDone = s.slotsDone := by cases r <;> rfl
@[simp] theorem State.setR8_serialOut (r : R8) (v : Byte) : (s.setR8 r v).serialOut = s.serialOut := by cases r <;> rfl
@[simp] theorem State.setR8_traceOut (r : R8) (v : Byte) : (s.setR8 r v).traceOut = s.traceOut := by cases r <;> rfl
@[simp] theorem State.setR8_cfg (r : R8) (v : Byte) : (s.setR8 r v).cfg = s.cfg := by cases r <;> rfl
@[simp] theorem State.setR8_inBatch (r : R8) (v : Byte) : (s.setR8 r v).inBatch = s.inBatch := by cases r <;> rfl
@[simp] theorem State.setR8_hostScript (r : R8) (v : Byte) : (s.setR8 r v).hostScript = s.hostScript := by cases r <;> rfl
@[simp] theorem State.setR16_mem (r : R16) (v : Word) : (s.setR16 r v).mem = s.mem := by cases r <;> rfl
@[simp] theorem State.setR16_lcd (r : R16) (v : Word) : (s.setR16 r v).lcd = s.lcd := by cases r <;> rfl
@[simp] theorem State.setR16_timer (r : R16) (v : Word) : (s.setR16 r v).timer = s.timer := by cases r <;> rfl
@[simp] theorem State.setR16_framebuffer (r : R16) (v : Word) : (s.setR16 r v).framebuffer = s.framebuffer := by cases r <;> rfl
@[simp] theorem State.setR16_joypad (r : R16) (v : Word) : (s.setR16 r v).joypad = s.joypad := by cases r <;> rfl
@[simp] theorem State.setR16_cart (r : R16) (v : Word) : (s.setR16 r v).cart = s.cart := by cases r <;> rfl
@[simp] theorem State.setR16_ring (r : R16) (v : Word) : (s.setR16 r v).ring = s.ring := by cases r <;> rfl
@[simp] theorem State.setR16_runState (r : R16) (v : Word) : (s.setR16 r v).runState = s.runState := by cases r <;> rfl
@[simp] theorem State.setR16_breakpoint (r : R16) (v : Word) : (s.setR16 r v).breakpoint = s.breakpoint := by cases r <;> rfl
@[simp] theorem State.setR16_breakFlag (r : R16) (v : Word) : (s.setR16 r v).breakFlag = s.breakFlag := by cases r <;> rfl
@[simp] theorem State.setR16_slotsDone (r : R16) (v : Word) : (s.setR16 r v).slotsDone = s.slotsDone := by cases r <;> rfl
@[simp] theorem State.setR16_serialOut (r : R16) (v : Word) : (s.setR16 r v).serialOut = s.serialOut := by cases r <;> rfl
@[simp] theorem State.setR16_traceOut (r : R16) (v : Word) : (s.setR16 r v).traceOut = s.traceOut := by cases r <;> rfl
@[simp] theorem State.setR16_cfg (r : R16) (v : Word) : (s.setR16 r v).cfg = s.cfg := by cases r <;> rfl
@[simp] theorem State.setR16_inBatch (r : R16) (v : Word) : (s.setR16 r v).inBatch = s.inBatch := by cases r <;> rfl
@[simp] theorem State.setR16_hostScript (r : R16) (v : Word) : (s.setR16 r v).hostScript = s.hostScript := by cases r <;> rfl
@[simp] theorem State.setR16Stk_mem (r : R16Stk) (v : Word) : (s.setR16Stk r v).mem = s.mem := by cases r <;> rfl
@[simp] theorem State.setR16Stk_lcd (r : R16Stk) (v : Word) : (s.setR16Stk r v).lcd = s.lcd := by cases r <;> rfl
@[simp] theorem State.setR16Stk_timer (r : R16Stk) (v : Word) : (s.setR16Stk r v).timer = s.timer := by cases r <;> rfl
@[simp] theorem State.setR16Stk_framebuffer (r : R16Stk) (v : Word) : (s.setR16Stk r v).framebuffer = s.framebuffer := by cases r <;> rfl
@[simp] theorem State.setR16Stk_joypad (r : R16Stk) (v : Word) : (s.setR16Stk r v).joypad = s.joypad := by cases r <;> rfl
@[simp] theorem State.setR16Stk_cart (r : R16Stk) (v : Word) : (s.setR16Stk r v).cart = s.cart := by cases r <;> rfl
@[simp] theorem State.setR16Stk_ring (r : R16Stk) (v : Word) : (s.setR16Stk r v).ring = s.ring := by cases r <;> rfl
@[simp] theorem State.setR16Stk_runState (r : R16Stk) (v : Word) : (s.setR16Stk r v).runState = s.runState := by cases r <;> rfl
@[simp] theorem State.setR16Stk_breakpoint (r : R16Stk) (v : Word) : (s.setR16Stk r v).breakpoint = s.breakpoint := by cases r <;> rfl
@[simp] theorem State.setR16Stk_breakFlag (r : R16Stk) (v : Word) : (s.setR16Stk r v).breakFlag = s.breakFlag := by cases r <;> rfl
@[simp] theorem State.setR16Stk_slotsDone (r : R16Stk) (v : Word) : (s.setR16Stk r v).slotsDone = s.slotsDone := by cases r <;> rfl
@[simp] theorem State.setR16Stk_serialOut (r : R16Stk) (v : Word) : (s.setR16Stk r v).serialOut = s.serialOut := by cases r <;> rfl
@[simp] theorem State.setR16Stk_traceOut (r : R16Stk) (v : Word) : (s.setR16Stk r v).traceOut = s.traceOut := by cases r <;> rfl
@[simp] theorem State.setR16Stk_cfg (r : R16Stk) (v : Word) : (s.setR16Stk r v).cfg = s.cfg := by cases r <;> rfl
@[simp] theorem State.setR16Stk_inBatch (r : R16Stk) (v : Word) : (s.setR16Stk r v).inBatch = s.inBatch := by cases r <;> rfl
@[simp] theorem State.setR16Stk_hostScript (r : R16Stk) (v : Word) : (s.setR16Stk r v).hostScript = s.hostScript := by cases r <;> rfl
@[simp] theorem State.setF_mem (v : Byte) : (s.setF v).mem = s.mem := rfl
@[simp] theorem State.setF_lcd (v : Byte) : (s.setF v).lcd = s.lcd := rfl
@[simp] theorem State.setF_timer (v : Byte) : (s.setF v).timer = s.timer := rfl
@[simp] theorem State.setF_framebuffer (v : Byte) : (s.setF v).framebuffer = s.framebuffer := rfl
@[simp] theorem State.setF_joypad (v : Byte) : (s.setF v).joypad = s.joypad := rfl
@[simp] theorem State.setF_cart (v : Byte) : (s.setF v).cart = s.cart := rfl
@[simp] theorem State.setF_ring (v : Byte) : (s.setF v).ring = s.ring := rfl
@[simp] theorem State.setF_runState (v : Byte) : (s.setF v).runState = s.runState := rfl
@[simp] theorem State.setF_breakpoint (v : Byte) : (s.setF v).breakpoint = s.breakpoint := rfl
@[simp] theorem State.setF_breakFlag (v : Byte) : (s.setF v).breakFlag = s.breakFlag := rfl
@[simp] theorem State.setF_slotsDone (v : Byte) : (s.setF v).slotsDone = s.slotsDone := rfl
@[simp] theorem State.setF_serialOut (v : Byte) : (s.setF v).serialOut = s.serialOut := rfl
@[simp] theorem State.setF_traceOut (v : Byte) : (s.setF v).traceOut = s.traceOut := rfl
@[simp] theorem State.setF_cfg (v : Byte) : (s.setF v).cfg = s.cfg := rfl
@[simp] theorem State.setF_inBatch (v : Byte) : (s.setF v).inBatch = s.inBatch := rfl
@[simp] theorem State.setF_hostScript (v : Byte) : (s.setF v).hostScript = s.hostScript := rfl
@[simp] theorem State.setF_pc0 (v : Byte) : (s.setF v).pc0 = s.pc0 := rfl

end Sys2Proof.Machine
end

