-- ==== Sys2Proof/Laws/Registers.lean ====
section
/-!
SUPPORT. What the register and flag updates do to the registers: each writes its own and leaves the others.
-/

namespace Sys2Proof.Machine

variable (s : State)

theorem State.regA_eq : s.regA = s.r8 .a := rfl

/-! ### setR8 -/

@[simp] theorem State.r8_setR8_same (r : R8) (v : Byte) : (s.setR8 r v).r8 r = v := by
  cases r <;> simp [State.setR8, State.r8]

theorem State.r8_setR8_other {r x : R8} (h : x ≠ r) (v : Byte) : (s.setR8 r v).r8 x = s.r8 x := by
  cases r <;> cases x <;> first | exact absurd rfl h | simp [State.setR8, State.r8]

@[simp] theorem State.regF_setR8 (r : R8) (v : Byte) : (s.setR8 r v).regF = s.regF := by
  cases r <;> simp [State.setR8, State.regF]

@[simp] theorem State.setR8_sp (r : R8) (v : Byte) : (s.setR8 r v).cpu.sp = s.cpu.sp := by cases r <;> rfl
@[simp] theorem State.setR8_pc (r : R8) (v : Byte) : (s.setR8 r v).cpu.pc = s.cpu.pc := by cases r <;> rfl
@[simp] theorem State.setR8_ime (r : R8) (v : Byte) : (s.setR8 r v).cpu.ime = s.cpu.ime := by cases r <;> rfl
@[simp] theorem State.setR8_prefixOp (r : R8) (v : Byte) : (s.setR8 r v).cpu.prefixOp = s.cpu.prefixOp := by
  cases r <;> rfl

/-! ### setF, setFlags -/

@[simp] theorem State.regF_setF (v : Byte) : (s.setF v).regF = v := by simp [State.setF, State.regF]
@[simp] theorem State.r8_setF (v : Byte) (x : R8) : (s.setF v).r8 x = s.r8 x := by
  cases x <;> simp [State.setF, State.r8]
@[simp] theorem State.setF_sp (v : Byte) : (s.setF v).cpu.sp = s.cpu.sp := rfl
@[simp] theorem State.setF_pc (v : Byte) : (s.setF v).cpu.pc = s.cpu.pc := rfl
@[simp] theorem State.setF_ime (v : Byte) : (s.setF v).cpu.ime = s.cpu.ime := rfl
@[simp] theorem State.setF_prefixOp (v : Byte) : (s.setF v).cpu.prefixOp = s.cpu.prefixOp := rfl

@[simp] theorem State.regF_setFlags (g : Flags) : (s.setFlags g).regF = flagByte g := by simp [State.setFlags]
@[simp] theorem State.r8_setFlags (g : Flags) (x : R8) : (s.setFlags g).r8 x = s.r8 x := by simp [State.setFlags]

theorem State.flagsAre_setFlags (g : Flags) : FlagsAre (s.setFlags g) g.z g.n g.h g.c := by
  simp [FlagsAre, State.zf, State.nf, State.hf, State.cf]

theorem State.sameControl_setFlags (g : Flags) : SameControl s (s.setFlags g) := ⟨rfl, rfl, rfl, rfl⟩
theorem State.sameR8_setFlags (g : Flags) : SameR8 s (s.setFlags g) := fun x => s.r8_setFlags g x
theorem State.sameControl_setR8 (r : R8) (v : Byte) : SameControl s (s.setR8 r v) := by cases r <;> exact ⟨rfl, rfl, rfl, rfl⟩
theorem State.sameR8But_setR8 (r : R8) (v : Byte) : SameR8But s (s.setR8 r v) r :=
  fun _ h => s.r8_setR8_other h v

/-! ### Pairs, and the flags as they are read -/

@[simp] theorem State.setR16_af (r : R16) (v : Word) : (s.setR16 r v).cpu.af = s.cpu.af := by cases r <;> rfl
@[simp] theorem State.setR16_pc (r : R16) (v : Word) : (s.setR16 r v).cpu.pc = s.cpu.pc := by cases r <;> rfl
@[simp] theorem State.setR16_ime (r : R16) (v : Word) : (s.setR16 r v).cpu.ime = s.cpu.ime := by cases r <;> rfl
@[simp] theorem State.setR16_prefixOp (r : R16) (v : Word) : (s.setR16 r v).cpu.prefixOp = s.cpu.prefixOp := by
  cases r <;> rfl
@[simp] theorem State.setR16Stk_sp (r : R16Stk) (v : Word) : (s.setR16Stk r v).cpu.sp = s.cpu.sp := by cases r <;> rfl
@[simp] theorem State.setR16Stk_pc (r : R16Stk) (v : Word) : (s.setR16Stk r v).cpu.pc = s.cpu.pc := by cases r <;> rfl
@[simp] theorem State.setR16Stk_ime (r : R16Stk) (v : Word) : (s.setR16Stk r v).cpu.ime = s.cpu.ime := by cases r <;> rfl
@[simp] theorem State.setR16Stk_prefixOp (r : R16Stk) (v : Word) : (s.setR16Stk r v).cpu.prefixOp = s.cpu.prefixOp := by
  cases r <;> rfl
@[simp] theorem State.regF_setHl (v : Word) : (s.setHl v).regF = s.regF := rfl
@[simp] theorem State.regF_setSp (v : Word) : (s.setSp v).regF = s.regF := rfl
@[simp] theorem State.regF_setPc (v : Word) : (s.setPc v).regF = s.regF := rfl
@[simp] theorem State.zf_setR8 (r : R8) (v : Byte) : (s.setR8 r v).zf = s.zf := by simp [State.zf]
@[simp] theorem State.nf_setR8 (r : R8) (v : Byte) : (s.setR8 r v).nf = s.nf := by simp [State.nf]
@[simp] theorem State.hf_setR8 (r : R8) (v : Byte) : (s.setR8 r v).hf = s.hf := by simp [State.hf]
@[simp] theorem State.cf_setR8 (r : R8) (v : Byte) : (s.setR8 r v).cf = s.cf := by simp [State.cf]
@[simp] theorem State.zf_setFlags (g : Flags) : (s.setFlags g).zf = g.z := by simp [State.zf]
@[simp] theorem State.nf_setFlags (g : Flags) : (s.setFlags g).nf = g.n := by simp [State.nf]
@[simp] theorem State.hf_setFlags (g : Flags) : (s.setFlags g).hf = g.h := by simp [State.hf]
@[simp] theorem State.cf_setFlags (g : Flags) : (s.setFlags g).cf = g.c := by simp [State.cf]

/-! ### Only the CPU registers change -/

theorem OnlyCpu.refl : OnlyCpu s s := rfl

theorem OnlyCpu.trans {s t u : State} (h : OnlyCpu s t) (k : OnlyCpu t u) : OnlyCpu s u := by
  unfold OnlyCpu at *; rw [← k, ← h]; rfl

theorem OnlyCpu.sameMemory {s t : State} (h : OnlyCpu s t) : SameMemory s t := by
  intro x; unfold OnlyCpu at h; rw [← h]; rfl

theorem OnlyCpu.storesNothing {s t : State} (h : OnlyCpu s t) : StoresNothing s t := ⟨h.sameMemory, h⟩

theorem State.onlyCpu_setCpu (c : Cpu) : OnlyCpu s (s.setCpu c) := rfl
theorem State.onlyCpu_setR8 (r : R8) (v : Byte) : OnlyCpu s (s.setR8 r v) := by cases r <;> rfl
theorem State.onlyCpu_setR16 (r : R16) (v : Word) : OnlyCpu s (s.setR16 r v) := by cases r <;> rfl
theorem State.onlyCpu_setR16Stk (r : R16Stk) (v : Word) : OnlyCpu s (s.setR16Stk r v) := by cases r <;> rfl
theorem State.onlyCpu_setFlags (g : Flags) : OnlyCpu s (s.setFlags g) := rfl

/-! ### F[3:0] -/

theorem State.flagsOk_setR8 (r : R8) (v : Byte) (h : s.cpu.flagsOk) : (s.setR8 r v).cpu.flagsOk := by
  cases r <;> first | exact h | simpa [Cpu.flagsOk, State.setR8] using h

theorem State.flagsOk_setFlags (g : Flags) : (s.setFlags g).cpu.flagsOk := by
  simp [Cpu.flagsOk, State.setFlags, State.setF]

theorem State.flagsOk_setR16 (r : R16) (v : Word) (h : s.cpu.flagsOk) : (s.setR16 r v).cpu.flagsOk := by
  cases r <;> exact h

theorem State.flagsOk_setR16Stk (r : R16Stk) (v : Word) (h : s.cpu.flagsOk) : (s.setR16Stk r v).cpu.flagsOk := by
  cases r <;> first | exact h | simp [Cpu.flagsOk, State.setR16Stk]

end Sys2Proof.Machine
end

