-- ==== Sys2Proof/Laws/Bus.lean ====
section
/-!
SUPPORT. The memory bus: what each direct and mediated access does to each byte, and that nothing else changes.
-/

namespace Sys2Proof.Machine

variable (s : State)

/-! ### Direct reads do not see the other fields -/

@[simp] theorem directRead_setCpu (v : Cpu) (x : Word) : directRead (s.setCpu v) x = directRead s x := rfl
@[simp] theorem directRead_setLcd (v : LcdTiming) (x : Word) : directRead (s.setLcd v) x = directRead s x := rfl
@[simp] theorem directRead_setTimer (v : TimerState) (x : Word) : directRead (s.setTimer v) x = directRead s x := rfl
@[simp] theorem directRead_setFramebuffer (v : Framebuffer) (x : Word) : directRead (s.setFramebuffer v) x = directRead s x := rfl
@[simp] theorem directRead_setJoypad (v : Joypad) (x : Word) : directRead (s.setJoypad v) x = directRead s x := rfl
@[simp] theorem directRead_setCart (v : Option Cartridge) (x : Word) : directRead (s.setCart v) x = directRead s x := rfl
@[simp] theorem directRead_setRing (v : SaveRing) (x : Word) : directRead (s.setRing v) x = directRead s x := rfl
@[simp] theorem directRead_setRunState (v : RunState) (x : Word) : directRead (s.setRunState v) x = directRead s x := rfl
@[simp] theorem directRead_setBreakpoint (v : Option Word) (x : Word) : directRead (s.setBreakpoint v) x = directRead s x := rfl
@[simp] theorem directRead_setBreakFlag (v : Bool) (x : Word) : directRead (s.setBreakFlag v) x = directRead s x := rfl
@[simp] theorem directRead_setSlotsDone (v : Nat) (x : Word) : directRead (s.setSlotsDone v) x = directRead s x := rfl
@[simp] theorem directRead_setSerialOut (v : List Byte) (x : Word) : directRead (s.setSerialOut v) x = directRead s x := rfl
@[simp] theorem directRead_setTraceOut (v : List TraceLine) (x : Word) : directRead (s.setTraceOut v) x = directRead s x := rfl
@[simp] theorem directRead_setInBatch (v : Bool) (x : Word) : directRead (s.setInBatch v) x = directRead s x := rfl
@[simp] theorem directRead_setHostScript (v : List (List HostAction)) (x : Word) : directRead (s.setHostScript v) x = directRead s x := rfl
@[simp] theorem directRead_setPc0 (v : Word) (x : Word) : directRead (s.setPc0 v) x = directRead s x := rfl
@[simp] theorem directRead_setAf (v : Word) (x : Word) : directRead (s.setAf v) x = directRead s x := rfl
@[simp] theorem directRead_setBc (v : Word) (x : Word) : directRead (s.setBc v) x = directRead s x := rfl
@[simp] theorem directRead_setDe (v : Word) (x : Word) : directRead (s.setDe v) x = directRead s x := rfl
@[simp] theorem directRead_setHl (v : Word) (x : Word) : directRead (s.setHl v) x = directRead s x := rfl
@[simp] theorem directRead_setSp (v : Word) (x : Word) : directRead (s.setSp v) x = directRead s x := rfl
@[simp] theorem directRead_setPc (v : Word) (x : Word) : directRead (s.setPc v) x = directRead s x := rfl
@[simp] theorem directRead_setIme (v : Bool) (x : Word) : directRead (s.setIme v) x = directRead s x := rfl
@[simp] theorem directRead_setPrefixOp (v : Bool) (x : Word) : directRead (s.setPrefixOp v) x = directRead s x := rfl
@[simp] theorem directRead_setF (v : Byte) (x : Word) : directRead (s.setF v) x = directRead s x := rfl
@[simp] theorem directRead_setFlags (v : Flags) (x : Word) : directRead (s.setFlags v) x = directRead s x := rfl
@[simp] theorem directRead_setR8 (r : R8) (v : Byte) (x : Word) : directRead (s.setR8 r v) x = directRead s x := by
  cases r <;> rfl
@[simp] theorem directRead_setR16 (r : R16) (v x : Word) : directRead (s.setR16 r v) x = directRead s x := by cases r <;> rfl
@[simp] theorem directRead_setR16Stk (r : R16Stk) (v x : Word) : directRead (s.setR16Stk r v) x = directRead s x := by
  cases r <;> rfl
@[simp] theorem memRead_eq (a : Word) : memRead s a = directRead s a := rfl

/-! ### Direct writes -/

theorem directRead_directWrite (a : Word) (v : Byte) (x : Word) :
    directRead (directWrite s a v) x = if x = a then v else directRead s x := by
  unfold directRead directWrite
  split
  · next h => rw [h]; exact Memory.read_write_same _ _ _
  · next h => exact Memory.read_write_other _ _ (fun e => h (BitVec.eq_of_toNat_eq e))

@[simp] theorem directRead_directWrite_same (a : Word) (v : Byte) : directRead (directWrite s a v) a = v := by
  simp [directRead_directWrite]

theorem directRead_directWrite_other {a x : Word} (v : Byte) (h : x ≠ a) :
    directRead (directWrite s a v) x = directRead s x := by
  simp [directRead_directWrite, h]

theorem wf_directWrite (a : Word) (v : Byte) (h : Memory.wf s.mem) : Memory.wf (directWrite s a v).mem :=
  Memory.wf_write _ _ _ a.isLt h

@[simp] theorem directWrite_cpu (a : Word) (v : Byte) : (directWrite s a v).cpu = s.cpu := rfl
@[simp] theorem directWrite_lcd (a : Word) (v : Byte) : (directWrite s a v).lcd = s.lcd := rfl
@[simp] theorem directWrite_timer (a : Word) (v : Byte) : (directWrite s a v).timer = s.timer := rfl
@[simp] theorem directWrite_framebuffer (a : Word) (v : Byte) : (directWrite s a v).framebuffer = s.framebuffer := rfl
@[simp] theorem directWrite_joypad (a : Word) (v : Byte) : (directWrite s a v).joypad = s.joypad := rfl
@[simp] theorem directWrite_cart (a : Word) (v : Byte) : (directWrite s a v).cart = s.cart := rfl
@[simp] theorem directWrite_ring (a : Word) (v : Byte) : (directWrite s a v).ring = s.ring := rfl
@[simp] theorem directWrite_runState (a : Word) (v : Byte) : (directWrite s a v).runState = s.runState := rfl
@[simp] theorem directWrite_breakpoint (a : Word) (v : Byte) : (directWrite s a v).breakpoint = s.breakpoint := rfl
@[simp] theorem directWrite_breakFlag (a : Word) (v : Byte) : (directWrite s a v).breakFlag = s.breakFlag := rfl
@[simp] theorem directWrite_slotsDone (a : Word) (v : Byte) : (directWrite s a v).slotsDone = s.slotsDone := rfl
@[simp] theorem directWrite_serialOut (a : Word) (v : Byte) : (directWrite s a v).serialOut = s.serialOut := rfl
@[simp] theorem directWrite_traceOut (a : Word) (v : Byte) : (directWrite s a v).traceOut = s.traceOut := rfl
@[simp] theorem directWrite_cfg (a : Word) (v : Byte) : (directWrite s a v).cfg = s.cfg := rfl
@[simp] theorem directWrite_inBatch (a : Word) (v : Byte) : (directWrite s a v).inBatch = s.inBatch := rfl
@[simp] theorem directWrite_hostScript (a : Word) (v : Byte) : (directWrite s a v).hostScript = s.hostScript := rfl
@[simp] theorem directWrite_pc0 (a : Word) (v : Byte) : (directWrite s a v).pc0 = s.pc0 := rfl

/-- Everything is as before but the memory image. -/
def OnlyMem (s t : State) : Prop := s.setMem t.mem = t

theorem onlyMem_directWrite (a : Word) (v : Byte) : OnlyMem s (directWrite s a v) := rfl

theorem OnlyMem.trans {s t u : State} (h : OnlyMem s t) (k : OnlyMem t u) : OnlyMem s u := by
  unfold OnlyMem at *; rw [← k, ← h]; rfl

theorem OnlyMem.serialOut {s t : State} (h : OnlyMem s t) : t.serialOut = s.serialOut := by
  unfold OnlyMem at h; rw [← h]; rfl

theorem OnlyMem.memSerial {s t : State} (h : OnlyMem s t) : (s.setMem t.mem).setSerialOut t.serialOut = t := by
  unfold OnlyMem at h; rw [← h]; rfl

/-! ### OAM DMA (R84) -/

/-- The first `n` copies of the OAM DMA. -/
def oamDmaPart (s : State) (v : Byte) (n : Nat) : State :=
  (List.range n).foldl
    (fun t i => directWrite t (oamBase + BitVec.ofNat 16 i) (directRead t (wordOf v 0 + BitVec.ofNat 16 i))) s

theorem oamDmaPart_succ (v : Byte) (n : Nat) :
    oamDmaPart s v (n + 1) = directWrite (oamDmaPart s v n) (oamBase + BitVec.ofNat 16 n)
      (directRead (oamDmaPart s v n) (wordOf v 0 + BitVec.ofNat 16 n)) := by
  simp [oamDmaPart, List.range_succ]

theorem oamDmaPart_onlyMem (v : Byte) (n : Nat) : OnlyMem s (oamDmaPart s v n) := by
  induction n with
  | zero => rfl
  | succ n ih => rw [oamDmaPart_succ]; exact ih.trans (onlyMem_directWrite _ _ _)

theorem wordOf_zero_toNat (v : Byte) : (wordOf v 0).toNat = v.toNat * 256 := by
  rw [wordOf, BitVec.toNat_append, Nat.shiftLeft_eq]; simp

/-- The closed form of the copy: a source byte is read before the copy could reach it, or is its own destination. -/
theorem directRead_oamDmaPart (v : Byte) (n : Nat) (hn : n ≤ 160) (x : Word) :
    directRead (oamDmaPart s v n) x =
      if 0xFE00 ≤ x.toNat ∧ x.toNat < 0xFE00 + n then directRead s (wordOf v 0 + (x - oamBase)) else directRead s x := by
  induction n generalizing x with
  | zero => rw [if_neg (by omega)]; rfl
  | succ n ih =>
    have hb : (oamBase + BitVec.ofNat 16 n).toNat = 0xFE00 + n := by
      simp [oamBase, BitVec.toNat_add, BitVec.toNat_ofNat]; omega
    have hsrc : (wordOf v 0 + BitVec.ofNat 16 n).toNat = v.toNat * 256 + n := by
      have := v.isLt
      rw [BitVec.toNat_add, wordOf_zero_toNat, BitVec.toNat_ofNat]; omega
    rw [oamDmaPart_succ, directRead_directWrite]
    by_cases hx : x = oamBase + BitVec.ofNat 16 n
    · have hxn : x.toNat = 0xFE00 + n := by rw [hx, hb]
      rw [if_pos hx, if_pos (by omega), ih (by omega)]
      have hsub : x - oamBase = BitVec.ofNat 16 n := by rw [hx, BitVec.add_comm, BitVec.add_sub_cancel]
      rw [hsub]
      split
      · next h => rw [hsrc] at h; omega
      · rfl
    · have hxn : x.toNat ≠ 0xFE00 + n := fun e => hx (BitVec.eq_of_toNat_eq (by rw [hb, e]))
      rw [if_neg hx, ih (by omega)]
      by_cases h : 0xFE00 ≤ x.toNat ∧ x.toNat < 0xFE00 + n
      · rw [if_pos h, if_pos (by omega)]
      · rw [if_neg h, if_neg (by omega)]

theorem oamDma_eq_part (v : Byte) : oamDma s v = oamDmaPart s v 160 := rfl

theorem wf_oamDma (v : Byte) (h : Memory.wf s.mem) : Memory.wf (oamDma s v).mem := by
  rw [oamDma_eq_part]
  generalize 160 = n
  induction n with
  | zero => exact h
  | succ n ih => rw [oamDmaPart_succ]; exact wf_directWrite _ _ _ ih

/-! ### The mediated write (R82): its five cases -/

/-- What a mediated write can be. -/
theorem memWrite_cases (a : Word) (v : Byte) :
    (a.toNat ≤ 0x7FFF ∧ memWrite s a v = s)
    ∨ (¬ a.toNat ≤ 0x7FFF ∧ a = s.cfg.io.dma ∧ memWrite s a v = oamDma s v)
    ∨ (¬ a.toNat ≤ 0x7FFF ∧ a ≠ s.cfg.io.dma ∧ a = s.cfg.io.div ∧ memWrite s a v = directWrite s s.cfg.io.div 0)
    ∨ (¬ a.toNat ≤ 0x7FFF ∧ a ≠ s.cfg.io.dma ∧ a ≠ s.cfg.io.div ∧ a = s.cfg.io.sb
      ∧ memWrite s a v = s.setSerialOut (s.serialOut ++ [v]))
    ∨ (¬ a.toNat ≤ 0x7FFF ∧ a ≠ s.cfg.io.dma ∧ a ≠ s.cfg.io.div ∧ a ≠ s.cfg.io.sb ∧ memWrite s a v = directWrite s a v) := by
  unfold memWrite
  by_cases h : a.toNat ≤ 0x7FFF
  · exact .inl ⟨h, if_pos h⟩
  by_cases h1 : a = s.cfg.io.dma
  · exact .inr (.inl ⟨h, h1, by rw [if_neg h, if_pos h1]⟩)
  by_cases h2 : a = s.cfg.io.div
  · exact .inr (.inr (.inl ⟨h, h1, h2, by rw [if_neg h, if_neg h1, if_pos h2]⟩))
  by_cases h3 : a = s.cfg.io.sb
  · exact .inr (.inr (.inr (.inl ⟨h, h1, h2, h3, by rw [if_neg h, if_neg h1, if_neg h2, if_pos h3]⟩)))
  · exact .inr (.inr (.inr (.inr ⟨h, h1, h2, h3, by rw [if_neg h, if_neg h1, if_neg h2, if_neg h3]⟩)))

theorem oamDma_onlyMem (v : Byte) : OnlyMem s (oamDma s v) := oamDmaPart_onlyMem s v 160

theorem directRead_oamDma (v : Byte) (x : Word) :
    directRead (oamDma s v) x =
      if 0xFE00 ≤ x.toNat ∧ x.toNat ≤ 0xFE9F then directRead s (wordOf v 0 + (x - 0xFE00#16)) else directRead s x := by
  rw [oamDma_eq_part, directRead_oamDmaPart s v 160 (by omega)]
  simp only [show (x.toNat < 0xFE00 + 160) ↔ x.toNat ≤ 0xFE9F by omega, oamBase]

/-- The bytes after a mediated write. -/
theorem directRead_memWrite (a : Word) (v : Byte) (x : Word) :
    directRead (memWrite s a v) x = byteAfterStore s.cfg.io (directRead s) a v x := by
  unfold byteAfterStore
  rcases memWrite_cases s a v with ⟨h, e⟩ | ⟨h, h1, e⟩ | ⟨h, h1, h2, e⟩ | ⟨h, h1, h2, h3, e⟩ | ⟨h, h1, h2, h3, e⟩ <;> rw [e]
  · rw [if_pos h]
  · rw [if_neg h, if_pos h1, directRead_oamDma]
  · rw [if_neg h, if_neg h1, if_pos h2, directRead_directWrite]
  · rw [if_neg h, if_neg h1, if_neg h2, if_pos h3, directRead_setSerialOut]
  · rw [if_neg h, if_neg h1, if_neg h2, if_neg h3, directRead_directWrite]

theorem memWrite_serialOut (a : Word) (v : Byte) :
    (memWrite s a v).serialOut = serialAfterStore s.cfg.io s.serialOut a v := by
  unfold serialAfterStore
  rcases memWrite_cases s a v with ⟨h, e⟩ | ⟨h, h1, e⟩ | ⟨h, h1, h2, e⟩ | ⟨h, h1, h2, h3, e⟩ | ⟨h, h1, h2, h3, e⟩ <;> rw [e]
  · rw [if_pos (.inl h)]
  · rw [if_pos (.inr (.inl h1)), (oamDma_onlyMem s v).serialOut]
  · rw [if_pos (.inr (.inr h2))]; rfl
  · rw [if_neg (by tauto), if_pos h3]; rfl
  · rw [if_neg (by tauto), if_neg h3]; rfl

/-- A mediated write changes the memory image and the serial history only. -/
theorem memWrite_frame (a : Word) (v : Byte) :
    (s.setMem (memWrite s a v).mem).setSerialOut (memWrite s a v).serialOut = memWrite s a v := by
  rcases memWrite_cases s a v with ⟨h, e⟩ | ⟨h, h1, e⟩ | ⟨h, h1, h2, e⟩ | ⟨h, h1, h2, h3, e⟩ | ⟨h, h1, h2, h3, e⟩ <;> rw [e]
  · rfl
  · exact (oamDma_onlyMem s v).memSerial
  · rfl
  · rfl
  · rfl

@[simp] theorem memWrite_cpu (a : Word) (v : Byte) : (memWrite s a v).cpu = s.cpu := by rw [← memWrite_frame]; rfl
@[simp] theorem memWrite_lcd (a : Word) (v : Byte) : (memWrite s a v).lcd = s.lcd := by rw [← memWrite_frame]; rfl
@[simp] theorem memWrite_timer (a : Word) (v : Byte) : (memWrite s a v).timer = s.timer := by rw [← memWrite_frame]; rfl
@[simp] theorem memWrite_framebuffer (a : Word) (v : Byte) : (memWrite s a v).framebuffer = s.framebuffer := by rw [← memWrite_frame]; rfl
@[simp] theorem memWrite_joypad (a : Word) (v : Byte) : (memWrite s a v).joypad = s.joypad := by rw [← memWrite_frame]; rfl
@[simp] theorem memWrite_cart (a : Word) (v : Byte) : (memWrite s a v).cart = s.cart := by rw [← memWrite_frame]; rfl
@[simp] theorem memWrite_ring (a : Word) (v : Byte) : (memWrite s a v).ring = s.ring := by rw [← memWrite_frame]; rfl
@[simp] theorem memWrite_runState (a : Word) (v : Byte) : (memWrite s a v).runState = s.runState := by rw [← memWrite_frame]; rfl
@[simp] theorem memWrite_breakpoint (a : Word) (v : Byte) : (memWrite s a v).breakpoint = s.breakpoint := by rw [← memWrite_frame]; rfl
@[simp] theorem memWrite_breakFlag (a : Word) (v : Byte) : (memWrite s a v).breakFlag = s.breakFlag := by rw [← memWrite_frame]; rfl
@[simp] theorem memWrite_slotsDone (a : Word) (v : Byte) : (memWrite s a v).slotsDone = s.slotsDone := by rw [← memWrite_frame]; rfl
@[simp] theorem memWrite_traceOut (a : Word) (v : Byte) : (memWrite s a v).traceOut = s.traceOut := by rw [← memWrite_frame]; rfl
@[simp] theorem memWrite_cfg (a : Word) (v : Byte) : (memWrite s a v).cfg = s.cfg := by rw [← memWrite_frame]; rfl
@[simp] theorem memWrite_inBatch (a : Word) (v : Byte) : (memWrite s a v).inBatch = s.inBatch := by rw [← memWrite_frame]; rfl
@[simp] theorem memWrite_hostScript (a : Word) (v : Byte) : (memWrite s a v).hostScript = s.hostScript := by rw [← memWrite_frame]; rfl
@[simp] theorem memWrite_pc0 (a : Word) (v : Byte) : (memWrite s a v).pc0 = s.pc0 := by rw [← memWrite_frame]; rfl

theorem wf_memWrite (a : Word) (v : Byte) (h : Memory.wf s.mem) : Memory.wf (memWrite s a v).mem := by
  rcases memWrite_cases s a v with ⟨-, e⟩ | ⟨-, -, e⟩ | ⟨-, -, -, e⟩ | ⟨-, -, -, -, e⟩ | ⟨-, -, -, -, e⟩ <;> rw [e]
  · exact h
  · exact wf_oamDma _ _ h
  · exact wf_directWrite _ _ _ h
  · exact h
  · exact wf_directWrite _ _ _ h

theorem OnlyCpuMemSerial.refl : OnlyCpuMemSerial s s := rfl

theorem OnlyCpuMemSerial.trans {s t u : State} (h : OnlyCpuMemSerial s t) (k : OnlyCpuMemSerial t u) :
    OnlyCpuMemSerial s u := by
  unfold OnlyCpuMemSerial at *; rw [← k, ← h]; rfl

theorem OnlyCpu.cpuMemSerial {s t : State} (h : OnlyCpu s t) : OnlyCpuMemSerial s t := by
  unfold OnlyCpu at h; unfold OnlyCpuMemSerial; rw [← h]; rfl

theorem onlyCpuMemSerial_memWrite (a : Word) (v : Byte) : OnlyCpuMemSerial s (memWrite s a v) := by
  have h := memWrite_frame s a v
  have hc := memWrite_cpu s a v
  unfold OnlyCpuMemSerial
  rw [hc]; exact h

/-- The mediated write of a byte is the store of the statements. -/
theorem storesByte_memWrite (a : Word) (v : Byte) : StoresByte s (memWrite s a v) a v :=
  ⟨directRead_memWrite s a v, memWrite_serialOut s a v, onlyCpuMemSerial_memWrite s a v⟩

/-- What a store changes leaves the parameters. -/
theorem OnlyCpuMemSerial.cfg {s t : State} (h : OnlyCpuMemSerial s t) : t.cfg = s.cfg := by
  unfold OnlyCpuMemSerial at h; rw [← h]; rfl

theorem OnlyCpu.cfg {s t : State} (h : OnlyCpu s t) : t.cfg = s.cfg := by unfold OnlyCpu at h; rw [← h]; rfl

/-- A later change of CPU registers does not disturb a store. -/
theorem StoresByte.onlyCpu {s t u : State} {a : Word} {v : Byte} (h : StoresByte s t a v) (k : OnlyCpu t u) :
    StoresByte s u a v := by
  refine ⟨fun x => (k.sameMemory x).trans (h.1 x), ?_, h.2.2.trans k.cpuMemSerial⟩
  rw [← h.2.1]; unfold OnlyCpu at k; rw [← k]; rfl

/-- An earlier change of CPU registers does not disturb a store. -/
theorem StoresByte.afterCpu {s t u : State} {a : Word} {v : Byte} (k : OnlyCpu s t) (h : StoresByte t u a v) :
    StoresByte s u a v := by
  have hm : directRead t = directRead s := funext k.sameMemory
  have hs : t.serialOut = s.serialOut := by unfold OnlyCpu at k; rw [← k]; rfl
  exact ⟨by rw [← hm, ← k.cfg]; exact h.1, by rw [← hs, ← k.cfg]; exact h.2.1, k.cpuMemSerial.trans h.2.2⟩

/-! ### 16-bit accesses and the stack -/

theorem storesWord_memWrite16 (a v : Word) : StoresWord s (memWrite16 s a v) a v := by
  have h1 := storesByte_memWrite s a (loByte v)
  have h2 := storesByte_memWrite (memWrite s a (loByte v)) (a + 1) (hiByte v)
  refine ⟨fun x => ?_, ?_, h1.2.2.trans h2.2.2⟩
  · rw [show directRead (memWrite16 s a v) x = _ from h2.1 x, funext h1.1, memWrite_cfg]; rfl
  · rw [show (memWrite16 s a v).serialOut = _ from h2.2.1, h1.2.1, memWrite_cfg]; rfl

@[simp] theorem memWrite16_cpu (a v : Word) : (memWrite16 s a v).cpu = s.cpu := by simp [memWrite16]

theorem wf_memWrite16 (a v : Word) (h : Memory.wf s.mem) : Memory.wf (memWrite16 s a v).mem :=
  wf_memWrite _ _ _ (wf_memWrite _ _ _ h)

theorem StoresWord.onlyCpu {s t u : State} {a v : Word} (h : StoresWord s t a v) (k : OnlyCpu t u) :
    StoresWord s u a v := by
  refine ⟨fun x => (k.sameMemory x).trans (h.1 x), ?_, h.2.2.trans k.cpuMemSerial⟩
  rw [← h.2.1]; unfold OnlyCpu at k; rw [← k]; rfl

theorem StoresWord.afterCpu {s t u : State} {a v : Word} (k : OnlyCpu s t) (h : StoresWord t u a v) :
    StoresWord s u a v := by
  have hm : directRead t = directRead s := funext k.sameMemory
  have hs : t.serialOut = s.serialOut := by unfold OnlyCpu at k; rw [← k]; rfl
  exact ⟨by rw [← hm, ← k.cfg]; exact h.1, by rw [← hs, ← k.cfg]; exact h.2.1, k.cpuMemSerial.trans h.2.2⟩

/-- `Push`: the word is stored at the new SP. -/
theorem storesWord_push16 (v : Word) : StoresWord s (push16 s v) (s.cpu.sp - 2) v :=
  StoresWord.afterCpu (show OnlyCpu s (s.setSp (s.cpu.sp - 2)) from rfl) (storesWord_memWrite16 _ _ _)

@[simp] theorem push16_cpu (v : Word) : (push16 s v).cpu = { s.cpu with sp := s.cpu.sp - 2 } := by
  simp [push16]; rfl

theorem wf_push16 (v : Word) (h : Memory.wf s.mem) : Memory.wf (push16 s v).mem := wf_memWrite16 _ _ _ h

theorem popValue_eq : popValue s = topOfStack s := rfl

/-! ### ROM (R83) -/

theorem byteAfterStore_rom (io : IoAddr) (m : Word → Byte) (a : Word) (v : Byte) {x : Word} (h : x.toNat ≤ 0x7FFF) :
    byteAfterStore io m a v x = m x := by
  unfold byteAfterStore
  split
  · rfl
  · next ha =>
    have hx : x ≠ a := fun e => ha (e ▸ h)
    split
    · rw [if_neg (by omega)]
    · split
      · next h4 => rw [if_neg (h4 ▸ hx)]
      · split <;> rfl

theorem StoresByte.rom {s t : State} {a : Word} {v : Byte} (k : StoresByte s t a v) {x : Word} (h : x.toNat ≤ 0x7FFF) :
    directRead t x = directRead s x := (k.1 x).trans (byteAfterStore_rom _ _ _ _ h)

theorem StoresWord.rom {s t : State} {a v : Word} (k : StoresWord s t a v) {x : Word} (h : x.toNat ≤ 0x7FFF) :
    directRead t x = directRead s x := by
  rw [k.1 x, bytesAfterWord, byteAfterStore_rom _ _ _ _ h, byteAfterStore_rom _ _ _ _ h]

/-! ### The register addresses (R50; log 21) -/

/-- A register address is not in ROM. -/
theorem ioOk_high {c : Config} (h : c.ioOk = true) {a : Word} (ha : a ∈ c.io.addresses) : 0x7FFF < a.toNat := by
  simp only [Config.ioOk, Bool.and_eq_true, List.all_eq_true, decide_eq_true_eq] at h
  exact h.1 a ha

/-- The register addresses are distinct. -/
theorem ioOk_nodup {c : Config} (h : c.ioOk = true) : c.io.addresses.Nodup := by
  simp only [Config.ioOk, Bool.and_eq_true, decide_eq_true_eq] at h
  exact h.2

/-- A byte of ROM is no register. -/
theorem ioOk_ne_rom {c : Config} (h : c.ioOk = true) {a x : Word} (ha : a ∈ c.io.addresses) (hx : x.toNat ≤ 0x7FFF) : x ≠ a :=
  fun e => absurd (ioOk_high h ha) (by rw [← e]; omega)

/-- The registers whose writes meet in one operation have distinct addresses. -/
structure IoDistinct (io : IoAddr) : Prop where
  div_dma : io.div ≠ io.dma
  sb_dma : io.sb ≠ io.dma
  sb_div : io.sb ≠ io.div
  tima_div : io.tima ≠ io.div
  tma_div : io.tma ≠ io.div
  tac_div : io.tac ≠ io.div
  if_div : io.ifReg ≠ io.div
  if_tima : io.ifReg ≠ io.tima
  tma_if : io.tma ≠ io.ifReg
  ly_if : io.ly ≠ io.ifReg
  ly_stat : io.ly ≠ io.stat
  if_stat : io.ifReg ≠ io.stat
  lyc_if : io.lyc ≠ io.ifReg
  lyc_stat : io.lyc ≠ io.stat
  ie_if : io.ieReg ≠ io.ifReg

/-- Two places of the list of addresses hold different addresses. -/
theorem ioOk_ne {c : Config} (h : c.ioOk = true) (i j : Nat) {a b : Word} (ha : c.io.addresses[i]? = some a)
    (hb : c.io.addresses[j]? = some b) (hij : i ≠ j) : a ≠ b := by
  rintro rfl
  have hi := (List.getElem?_eq_some_iff.1 ha).1
  exact hij ((List.getElem?_inj hi (ioOk_nodup h)).1 (ha.trans hb.symm))

theorem ioOk_distinct {c : Config} (h : c.ioOk = true) : IoDistinct c.io where
  div_dma := ioOk_ne h 3 14 rfl rfl (by decide)
  sb_dma := ioOk_ne h 1 14 rfl rfl (by decide)
  sb_div := ioOk_ne h 1 3 rfl rfl (by decide)
  tima_div := ioOk_ne h 4 3 rfl rfl (by decide)
  tma_div := ioOk_ne h 5 3 rfl rfl (by decide)
  tac_div := ioOk_ne h 6 3 rfl rfl (by decide)
  if_div := ioOk_ne h 7 3 rfl rfl (by decide)
  if_tima := ioOk_ne h 7 4 rfl rfl (by decide)
  tma_if := ioOk_ne h 5 7 rfl rfl (by decide)
  ly_if := ioOk_ne h 12 7 rfl rfl (by decide)
  ly_stat := ioOk_ne h 12 9 rfl rfl (by decide)
  if_stat := ioOk_ne h 7 9 rfl rfl (by decide)
  lyc_if := ioOk_ne h 13 7 rfl rfl (by decide)
  lyc_stat := ioOk_ne h 13 9 rfl rfl (by decide)
  ie_if := ioOk_ne h 20 7 rfl rfl (by decide)

end Sys2Proof.Machine
end

