-- ==== Sys2Proof/Laws/Decode.lean ====
section
/-!
SUPPORT. The decoder and the encoder on one table entry: the bytes an entry takes, read back, are the bytes it was decoded
from; bytes past its length play no part.
-/

namespace Sys2Proof

open Sys2Proof.Machine

/-- An unprefixed entry encodes to its opcode byte and the immediates its length takes. -/
theorem encodeEntry_decodeUnprefixed (op b1 b2 : Byte) :
    encodeEntry (decodeUnprefixed op b1 b2) = ⟨false, op :: [b1, b2].take (entryLength false op - 1)⟩ := by
  obtain ⟨n, rfl⟩ : ∃ n : Fin 256, op = BitVec.ofFin n := ⟨op.toFin, rfl⟩
  fin_cases n <;> first
    | rfl
    | (show (⟨false, [_, loByte (wordOf b2 b1), hiByte (wordOf b2 b1)]⟩ : EntryWords) = _
       rw [loByte_wordOf, hiByte_wordOf]; rfl)

/-- A prefixed entry encodes to its one byte. -/
theorem encodeEntry_decodePrefixed (op : Byte) : encodeEntry (decodePrefixed op) = ⟨true, [op]⟩ := by
  revert op; decide

theorem entryLength_prefixed (op : Byte) : entryLength true op = 1 := rfl

theorem entryLength_range (p : Bool) (op : Byte) : entryLength p op = 1 ∨ entryLength p op = 2 ∨ entryLength p op = 3 := by
  unfold entryLength
  split
  · exact .inl rfl
  · split
    · exact .inr (.inr rfl)
    · split
      · exact .inr (.inl rfl)
      · exact .inl rfl

/-- Any table entry encodes to its opcode byte and the immediates its length takes. -/
theorem encodeEntry_decodeEntry (p : Bool) (op b1 b2 : Byte) :
    encodeEntry (decodeEntry p op b1 b2) = ⟨p, op :: [b1, b2].take (entryLength p op - 1)⟩ := by
  cases p
  · exact encodeEntry_decodeUnprefixed op b1 b2
  · exact encodeEntry_decodePrefixed op

/-- A byte past an entry's length plays no part in its decoding. -/
theorem decodeEntry_ignores (p : Bool) (op b1 b2 : Byte) :
    (entryLength p op = 1 → decodeEntry p op b1 b2 = decodeEntry p op 0 0)
    ∧ (entryLength p op = 2 → decodeEntry p op b1 b2 = decodeEntry p op b1 0) := by
  cases p
  · obtain ⟨n, rfl⟩ : ∃ n : Fin 256, op = BitVec.ofFin n := ⟨op.toFin, rfl⟩
    fin_cases n <;> refine ⟨fun h => ?_, fun h => ?_⟩ <;> first | rfl | exact absurd h (by decide)
  · exact ⟨fun _ => rfl, fun _ => rfl⟩

/-- What a successful decoding is: a table entry of the first byte, by the length of that byte. -/
theorem decode_cases {p : Bool} {bytes rest : List Byte} {i : Instr} (h : decode p bytes = .ok (i, rest)) :
    ∃ op b1 b2, i = decodeEntry p op b1 b2 ∧ bytes = op :: ([b1, b2].take (entryLength p op - 1) ++ rest) := by
  cases bytes with
  | nil => simp [decode] at h
  | cons op tail =>
    simp only [decode] at h
    split at h
    · next hl => cases h; exact ⟨op, 0, 0, rfl, by rw [hl]; rfl⟩
    · next b1 r hl => cases h; exact ⟨op, b1, 0, rfl, by rw [hl]; rfl⟩
    · next b1 b2 r hl => cases h; exact ⟨op, b1, b2, rfl, by rw [hl]; rfl⟩
    · cases h

/-- Decoding the three bytes at an address is the entry of its opcode byte with the two bytes after it. -/
theorem decodeEntry_of_decode {p : Bool} {op b1 b2 : Byte} {i : Instr} {rest : List Byte}
    (h : decode p [op, b1, b2] = .ok (i, rest)) : i = decodeEntry p op b1 b2 := by
  have hi := decodeEntry_ignores p op b1 b2
  rcases entryLength_range p op with hl | hl | hl <;> simp only [decode, hl] at h <;> cases h
  · exact (hi.1 hl).symm
  · exact (hi.2 hl).symm
  · rfl

end Sys2Proof
end

