-- ==== Sys2Proof/Laws/Shapes.lean ====
section
/-!
SUPPORT. The instructions by shape: every instruction is one of the forms of the decoder, so a fact about all 512 is proved by
cases on the shape, and each form runs one shared operation.
-/

namespace Sys2Proof.Machine

/-- The forms of the instruction set, each with its operand fields. -/
inductive Shape where
  | ldRR (dst r : R8)
  | ldRN8 (dst : R8) (n8 : Byte)
  | ldRAtHl (dst : R8)
  | ldAtHlR (r : R8)
  | ldAtHlN8 (v : Byte)
  | ldAAtBc
  | ldAAtDe
  | ldAtBcA
  | ldAtDeA
  | ldAAtN16 (v : Word)
  | ldAtN16A (v : Word)
  | ldhAAtC
  | ldhAtCA
  | ldhAAtN8 (v : Byte)
  | ldhAtN8A (v : Byte)
  | ldAAtHlInc
  | ldAAtHlDec
  | ldAtHlIncA
  | ldAtHlDecA
  | ldRrN16 (dst : R16) (n16 : Word)
  | ldAtN16Sp (v : Word)
  | ldSpHl
  | pop (dst : R16Stk)
  | push (r : R16Stk)
  | aluR (op : AluOp) (r : R8)
  | aluAtHl (op : AluOp)
  | aluN8 (op : AluOp) (n8 : Byte)
  | incR (r : R8)
  | decR (r : R8)
  | incAtHl
  | decAtHl
  | daa
  | cpl
  | scf
  | ccf
  | incRr (r : R16)
  | decRr (r : R16)
  | addHlRr (r : R16)
  | addSpE8 (v : Byte)
  | ldHlSpE8 (v : Byte)
  | rlca
  | rrca
  | rla
  | rra
  | shiftR (k : ShiftKind) (r : R8)
  | shiftAtHl (k : ShiftKind)
  | bitR (b : Bit3) (r : R8)
  | bitAtHl (b : Bit3)
  | resR (b : Bit3) (r : R8)
  | resAtHl (b : Bit3)
  | setR (b : Bit3) (r : R8)
  | setAtHl (b : Bit3)
  | jpN16 (v : Word)
  | jpCc (cc : Cond) (n16 : Word)
  | jpHl
  | jrE8 (v : Byte)
  | jrCc (cc : Cond) (e8 : Byte)
  | callN16 (v : Word)
  | callCc (cc : Cond) (n16 : Word)
  | ret
  | retCc (cc : Cond)
  | reti
  | rst (k : Bit3)
  | nop
  | halt
  | stop (v : Byte)
  | di
  | ei
  | prefixCb
  | undefinedD3
  | undefinedDB
  | undefinedDD
  | undefinedE3
  | undefinedE4
  | undefinedEB
  | undefinedEC
  | undefinedED
  | undefinedF4
  | undefinedFC
  | undefinedFD

/-- The instruction of a shape. -/
def Shape.instr : Shape → Instr
  | .ldRR dst r => formLdRR dst r
  | .ldRN8 dst n8 => formLdRN8 dst n8
  | .ldRAtHl dst => formLdRAtHl dst
  | .ldAtHlR r => formLdAtHlR r
  | .ldAtHlN8 v => .ldAtHlN8 v
  | .ldAAtBc => .ldAAtBc
  | .ldAAtDe => .ldAAtDe
  | .ldAtBcA => .ldAtBcA
  | .ldAtDeA => .ldAtDeA
  | .ldAAtN16 v => .ldAAtN16 v
  | .ldAtN16A v => .ldAtN16A v
  | .ldhAAtC => .ldhAAtC
  | .ldhAtCA => .ldhAtCA
  | .ldhAAtN8 v => .ldhAAtN8 v
  | .ldhAtN8A v => .ldhAtN8A v
  | .ldAAtHlInc => .ldAAtHlInc
  | .ldAAtHlDec => .ldAAtHlDec
  | .ldAtHlIncA => .ldAtHlIncA
  | .ldAtHlDecA => .ldAtHlDecA
  | .ldRrN16 dst n16 => formLdRrN16 dst n16
  | .ldAtN16Sp v => .ldAtN16Sp v
  | .ldSpHl => .ldSpHl
  | .pop dst => formPop dst
  | .push r => formPush r
  | .aluR op r => formAluR op r
  | .aluAtHl op => formAluAtHl op
  | .aluN8 op n8 => formAluN8 op n8
  | .incR r => formIncR r
  | .decR r => formDecR r
  | .incAtHl => .incAtHl
  | .decAtHl => .decAtHl
  | .daa => .daa
  | .cpl => .cpl
  | .scf => .scf
  | .ccf => .ccf
  | .incRr r => formIncRr r
  | .decRr r => formDecRr r
  | .addHlRr r => formAddHlRr r
  | .addSpE8 v => .addSpE8 v
  | .ldHlSpE8 v => .ldHlSpE8 v
  | .rlca => .rlca
  | .rrca => .rrca
  | .rla => .rla
  | .rra => .rra
  | .shiftR k r => formShiftR k r
  | .shiftAtHl k => formShiftAtHl k
  | .bitR b r => formBitR b r
  | .bitAtHl b => formBitAtHl b
  | .resR b r => formResR b r
  | .resAtHl b => formResAtHl b
  | .setR b r => formSetR b r
  | .setAtHl b => formSetAtHl b
  | .jpN16 v => .jpN16 v
  | .jpCc cc n16 => formJpCc cc n16
  | .jpHl => .jpHl
  | .jrE8 v => .jrE8 v
  | .jrCc cc e8 => formJrCc cc e8
  | .callN16 v => .callN16 v
  | .callCc cc n16 => formCallCc cc n16
  | .ret => .ret
  | .retCc cc => formRetCc cc
  | .reti => .reti
  | .rst k => formRst k
  | .nop => .nop
  | .halt => .halt
  | .stop v => .stop v
  | .di => .di
  | .ei => .ei
  | .prefixCb => .prefixCb
  | .undefinedD3 => .undefinedD3
  | .undefinedDB => .undefinedDB
  | .undefinedDD => .undefinedDD
  | .undefinedE3 => .undefinedE3
  | .undefinedE4 => .undefinedE4
  | .undefinedEB => .undefinedEB
  | .undefinedEC => .undefinedEC
  | .undefinedED => .undefinedED
  | .undefinedF4 => .undefinedF4
  | .undefinedFC => .undefinedFC
  | .undefinedFD => .undefinedFD

/-- Every instruction has a shape. -/
theorem exists_shape : ∀ i : Instr, ∃ k : Shape, k.instr = i
  | .nop => ⟨.nop, rfl⟩
  | .ldBcN16 n => ⟨.ldRrN16 .bc n, rfl⟩
  | .ldAtBcA => ⟨.ldAtBcA, rfl⟩
  | .incBc => ⟨.incRr .bc, rfl⟩
  | .incB => ⟨.incR .b, rfl⟩
  | .decB => ⟨.decR .b, rfl⟩
  | .ldBN8 n => ⟨.ldRN8 .b n, rfl⟩
  | .rlca => ⟨.rlca, rfl⟩
  | .ldAtN16Sp n => ⟨.ldAtN16Sp n, rfl⟩
  | .addHlBc => ⟨.addHlRr .bc, rfl⟩
  | .ldAAtBc => ⟨.ldAAtBc, rfl⟩
  | .decBc => ⟨.decRr .bc, rfl⟩
  | .incC => ⟨.incR .c, rfl⟩
  | .decC => ⟨.decR .c, rfl⟩
  | .ldCN8 n => ⟨.ldRN8 .c n, rfl⟩
  | .rrca => ⟨.rrca, rfl⟩
  | .stop n => ⟨.stop n, rfl⟩
  | .ldDeN16 n => ⟨.ldRrN16 .de n, rfl⟩
  | .ldAtDeA => ⟨.ldAtDeA, rfl⟩
  | .incDe => ⟨.incRr .de, rfl⟩
  | .incD => ⟨.incR .d, rfl⟩
  | .decD => ⟨.decR .d, rfl⟩
  | .ldDN8 n => ⟨.ldRN8 .d n, rfl⟩
  | .rla => ⟨.rla, rfl⟩
  | .jrE8 n => ⟨.jrE8 n, rfl⟩
  | .addHlDe => ⟨.addHlRr .de, rfl⟩
  | .ldAAtDe => ⟨.ldAAtDe, rfl⟩
  | .decDe => ⟨.decRr .de, rfl⟩
  | .incE => ⟨.incR .e, rfl⟩
  | .decE => ⟨.decR .e, rfl⟩
  | .ldEN8 n => ⟨.ldRN8 .e n, rfl⟩
  | .rra => ⟨.rra, rfl⟩
  | .jrNzE8 n => ⟨.jrCc .nz n, rfl⟩
  | .ldHlN16 n => ⟨.ldRrN16 .hl n, rfl⟩
  | .ldAtHlIncA => ⟨.ldAtHlIncA, rfl⟩
  | .incHl => ⟨.incRr .hl, rfl⟩
  | .incH => ⟨.incR .h, rfl⟩
  | .decH => ⟨.decR .h, rfl⟩
  | .ldHN8 n => ⟨.ldRN8 .h n, rfl⟩
  | .daa => ⟨.daa, rfl⟩
  | .jrZE8 n => ⟨.jrCc .z n, rfl⟩
  | .addHlHl => ⟨.addHlRr .hl, rfl⟩
  | .ldAAtHlInc => ⟨.ldAAtHlInc, rfl⟩
  | .decHl => ⟨.decRr .hl, rfl⟩
  | .incL => ⟨.incR .l, rfl⟩
  | .decL => ⟨.decR .l, rfl⟩
  | .ldLN8 n => ⟨.ldRN8 .l n, rfl⟩
  | .cpl => ⟨.cpl, rfl⟩
  | .jrNcE8 n => ⟨.jrCc .nc n, rfl⟩
  | .ldSpN16 n => ⟨.ldRrN16 .sp n, rfl⟩
  | .ldAtHlDecA => ⟨.ldAtHlDecA, rfl⟩
  | .incSp => ⟨.incRr .sp, rfl⟩
  | .incAtHl => ⟨.incAtHl, rfl⟩
  | .decAtHl => ⟨.decAtHl, rfl⟩
  | .ldAtHlN8 n => ⟨.ldAtHlN8 n, rfl⟩
  | .scf => ⟨.scf, rfl⟩
  | .jrCE8 n => ⟨.jrCc .c n, rfl⟩
  | .addHlSp => ⟨.addHlRr .sp, rfl⟩
  | .ldAAtHlDec => ⟨.ldAAtHlDec, rfl⟩
  | .decSp => ⟨.decRr .sp, rfl⟩
  | .incA => ⟨.incR .a, rfl⟩
  | .decA => ⟨.decR .a, rfl⟩
  | .ldAN8 n => ⟨.ldRN8 .a n, rfl⟩
  | .ccf => ⟨.ccf, rfl⟩
  | .ldBB => ⟨.ldRR .b .b, rfl⟩
  | .ldBC => ⟨.ldRR .b .c, rfl⟩
  | .ldBD => ⟨.ldRR .b .d, rfl⟩
  | .ldBE => ⟨.ldRR .b .e, rfl⟩
  | .ldBH => ⟨.ldRR .b .h, rfl⟩
  | .ldBL => ⟨.ldRR .b .l, rfl⟩
  | .ldBAtHl => ⟨.ldRAtHl .b, rfl⟩
  | .ldBA => ⟨.ldRR .b .a, rfl⟩
  | .ldCB => ⟨.ldRR .c .b, rfl⟩
  | .ldCC => ⟨.ldRR .c .c, rfl⟩
  | .ldCD => ⟨.ldRR .c .d, rfl⟩
  | .ldCE => ⟨.ldRR .c .e, rfl⟩
  | .ldCH => ⟨.ldRR .c .h, rfl⟩
  | .ldCL => ⟨.ldRR .c .l, rfl⟩
  | .ldCAtHl => ⟨.ldRAtHl .c, rfl⟩
  | .ldCA => ⟨.ldRR .c .a, rfl⟩
  | .ldDB => ⟨.ldRR .d .b, rfl⟩
  | .ldDC => ⟨.ldRR .d .c, rfl⟩
  | .ldDD => ⟨.ldRR .d .d, rfl⟩
  | .ldDE => ⟨.ldRR .d .e, rfl⟩
  | .ldDH => ⟨.ldRR .d .h, rfl⟩
  | .ldDL => ⟨.ldRR .d .l, rfl⟩
  | .ldDAtHl => ⟨.ldRAtHl .d, rfl⟩
  | .ldDA => ⟨.ldRR .d .a, rfl⟩
  | .ldEB => ⟨.ldRR .e .b, rfl⟩
  | .ldEC => ⟨.ldRR .e .c, rfl⟩
  | .ldED => ⟨.ldRR .e .d, rfl⟩
  | .ldEE => ⟨.ldRR .e .e, rfl⟩
  | .ldEH => ⟨.ldRR .e .h, rfl⟩
  | .ldEL => ⟨.ldRR .e .l, rfl⟩
  | .ldEAtHl => ⟨.ldRAtHl .e, rfl⟩
  | .ldEA => ⟨.ldRR .e .a, rfl⟩
  | .ldHB => ⟨.ldRR .h .b, rfl⟩
  | .ldHC => ⟨.ldRR .h .c, rfl⟩
  | .ldHD => ⟨.ldRR .h .d, rfl⟩
  | .ldHE => ⟨.ldRR .h .e, rfl⟩
  | .ldHH => ⟨.ldRR .h .h, rfl⟩
  | .ldHL => ⟨.ldRR .h .l, rfl⟩
  | .ldHAtHl => ⟨.ldRAtHl .h, rfl⟩
  | .ldHA => ⟨.ldRR .h .a, rfl⟩
  | .ldLB => ⟨.ldRR .l .b, rfl⟩
  | .ldLC => ⟨.ldRR .l .c, rfl⟩
  | .ldLD => ⟨.ldRR .l .d, rfl⟩
  | .ldLE => ⟨.ldRR .l .e, rfl⟩
  | .ldLH => ⟨.ldRR .l .h, rfl⟩
  | .ldLL => ⟨.ldRR .l .l, rfl⟩
  | .ldLAtHl => ⟨.ldRAtHl .l, rfl⟩
  | .ldLA => ⟨.ldRR .l .a, rfl⟩
  | .ldAtHlB => ⟨.ldAtHlR .b, rfl⟩
  | .ldAtHlC => ⟨.ldAtHlR .c, rfl⟩
  | .ldAtHlD => ⟨.ldAtHlR .d, rfl⟩
  | .ldAtHlE => ⟨.ldAtHlR .e, rfl⟩
  | .ldAtHlH => ⟨.ldAtHlR .h, rfl⟩
  | .ldAtHlL => ⟨.ldAtHlR .l, rfl⟩
  | .halt => ⟨.halt, rfl⟩
  | .ldAtHlA => ⟨.ldAtHlR .a, rfl⟩
  | .ldAB => ⟨.ldRR .a .b, rfl⟩
  | .ldAC => ⟨.ldRR .a .c, rfl⟩
  | .ldAD => ⟨.ldRR .a .d, rfl⟩
  | .ldAE => ⟨.ldRR .a .e, rfl⟩
  | .ldAH => ⟨.ldRR .a .h, rfl⟩
  | .ldAL => ⟨.ldRR .a .l, rfl⟩
  | .ldAAtHl => ⟨.ldRAtHl .a, rfl⟩
  | .ldAA => ⟨.ldRR .a .a, rfl⟩
  | .addAB => ⟨.aluR .add .b, rfl⟩
  | .addAC => ⟨.aluR .add .c, rfl⟩
  | .addAD => ⟨.aluR .add .d, rfl⟩
  | .addAE => ⟨.aluR .add .e, rfl⟩
  | .addAH => ⟨.aluR .add .h, rfl⟩
  | .addAL => ⟨.aluR .add .l, rfl⟩
  | .addAAtHl => ⟨.aluAtHl .add, rfl⟩
  | .addAA => ⟨.aluR .add .a, rfl⟩
  | .adcAB => ⟨.aluR .adc .b, rfl⟩
  | .adcAC => ⟨.aluR .adc .c, rfl⟩
  | .adcAD => ⟨.aluR .adc .d, rfl⟩
  | .adcAE => ⟨.aluR .adc .e, rfl⟩
  | .adcAH => ⟨.aluR .adc .h, rfl⟩
  | .adcAL => ⟨.aluR .adc .l, rfl⟩
  | .adcAAtHl => ⟨.aluAtHl .adc, rfl⟩
  | .adcAA => ⟨.aluR .adc .a, rfl⟩
  | .subAB => ⟨.aluR .sub .b, rfl⟩
  | .subAC => ⟨.aluR .sub .c, rfl⟩
  | .subAD => ⟨.aluR .sub .d, rfl⟩
  | .subAE => ⟨.aluR .sub .e, rfl⟩
  | .subAH => ⟨.aluR .sub .h, rfl⟩
  | .subAL => ⟨.aluR .sub .l, rfl⟩
  | .subAAtHl => ⟨.aluAtHl .sub, rfl⟩
  | .subAA => ⟨.aluR .sub .a, rfl⟩
  | .sbcAB => ⟨.aluR .sbc .b, rfl⟩
  | .sbcAC => ⟨.aluR .sbc .c, rfl⟩
  | .sbcAD => ⟨.aluR .sbc .d, rfl⟩
  | .sbcAE => ⟨.aluR .sbc .e, rfl⟩
  | .sbcAH => ⟨.aluR .sbc .h, rfl⟩
  | .sbcAL => ⟨.aluR .sbc .l, rfl⟩
  | .sbcAAtHl => ⟨.aluAtHl .sbc, rfl⟩
  | .sbcAA => ⟨.aluR .sbc .a, rfl⟩
  | .andAB => ⟨.aluR .and .b, rfl⟩
  | .andAC => ⟨.aluR .and .c, rfl⟩
  | .andAD => ⟨.aluR .and .d, rfl⟩
  | .andAE => ⟨.aluR .and .e, rfl⟩
  | .andAH => ⟨.aluR .and .h, rfl⟩
  | .andAL => ⟨.aluR .and .l, rfl⟩
  | .andAAtHl => ⟨.aluAtHl .and, rfl⟩
  | .andAA => ⟨.aluR .and .a, rfl⟩
  | .xorAB => ⟨.aluR .xor .b, rfl⟩
  | .xorAC => ⟨.aluR .xor .c, rfl⟩
  | .xorAD => ⟨.aluR .xor .d, rfl⟩
  | .xorAE => ⟨.aluR .xor .e, rfl⟩
  | .xorAH => ⟨.aluR .xor .h, rfl⟩
  | .xorAL => ⟨.aluR .xor .l, rfl⟩
  | .xorAAtHl => ⟨.aluAtHl .xor, rfl⟩
  | .xorAA => ⟨.aluR .xor .a, rfl⟩
  | .orAB => ⟨.aluR .or .b, rfl⟩
  | .orAC => ⟨.aluR .or .c, rfl⟩
  | .orAD => ⟨.aluR .or .d, rfl⟩
  | .orAE => ⟨.aluR .or .e, rfl⟩
  | .orAH => ⟨.aluR .or .h, rfl⟩
  | .orAL => ⟨.aluR .or .l, rfl⟩
  | .orAAtHl => ⟨.aluAtHl .or, rfl⟩
  | .orAA => ⟨.aluR .or .a, rfl⟩
  | .cpAB => ⟨.aluR .cp .b, rfl⟩
  | .cpAC => ⟨.aluR .cp .c, rfl⟩
  | .cpAD => ⟨.aluR .cp .d, rfl⟩
  | .cpAE => ⟨.aluR .cp .e, rfl⟩
  | .cpAH => ⟨.aluR .cp .h, rfl⟩
  | .cpAL => ⟨.aluR .cp .l, rfl⟩
  | .cpAAtHl => ⟨.aluAtHl .cp, rfl⟩
  | .cpAA => ⟨.aluR .cp .a, rfl⟩
  | .retNz => ⟨.retCc .nz, rfl⟩
  | .popBc => ⟨.pop .bc, rfl⟩
  | .jpNzN16 n => ⟨.jpCc .nz n, rfl⟩
  | .jpN16 n => ⟨.jpN16 n, rfl⟩
  | .callNzN16 n => ⟨.callCc .nz n, rfl⟩
  | .pushBc => ⟨.push .bc, rfl⟩
  | .addAN8 n => ⟨.aluN8 .add n, rfl⟩
  | .rst00 => ⟨.rst .b0, rfl⟩
  | .retZ => ⟨.retCc .z, rfl⟩
  | .ret => ⟨.ret, rfl⟩
  | .jpZN16 n => ⟨.jpCc .z n, rfl⟩
  | .prefixCb => ⟨.prefixCb, rfl⟩
  | .callZN16 n => ⟨.callCc .z n, rfl⟩
  | .callN16 n => ⟨.callN16 n, rfl⟩
  | .adcAN8 n => ⟨.aluN8 .adc n, rfl⟩
  | .rst08 => ⟨.rst .b1, rfl⟩
  | .retNc => ⟨.retCc .nc, rfl⟩
  | .popDe => ⟨.pop .de, rfl⟩
  | .jpNcN16 n => ⟨.jpCc .nc n, rfl⟩
  | .undefinedD3 => ⟨.undefinedD3, rfl⟩
  | .callNcN16 n => ⟨.callCc .nc n, rfl⟩
  | .pushDe => ⟨.push .de, rfl⟩
  | .subAN8 n => ⟨.aluN8 .sub n, rfl⟩
  | .rst10 => ⟨.rst .b2, rfl⟩
  | .retC => ⟨.retCc .c, rfl⟩
  | .reti => ⟨.reti, rfl⟩
  | .jpCN16 n => ⟨.jpCc .c n, rfl⟩
  | .undefinedDB => ⟨.undefinedDB, rfl⟩
  | .callCN16 n => ⟨.callCc .c n, rfl⟩
  | .undefinedDD => ⟨.undefinedDD, rfl⟩
  | .sbcAN8 n => ⟨.aluN8 .sbc n, rfl⟩
  | .rst18 => ⟨.rst .b3, rfl⟩
  | .ldhAtN8A n => ⟨.ldhAtN8A n, rfl⟩
  | .popHl => ⟨.pop .hl, rfl⟩
  | .ldhAtCA => ⟨.ldhAtCA, rfl⟩
  | .undefinedE3 => ⟨.undefinedE3, rfl⟩
  | .undefinedE4 => ⟨.undefinedE4, rfl⟩
  | .pushHl => ⟨.push .hl, rfl⟩
  | .andAN8 n => ⟨.aluN8 .and n, rfl⟩
  | .rst20 => ⟨.rst .b4, rfl⟩
  | .addSpE8 n => ⟨.addSpE8 n, rfl⟩
  | .jpHl => ⟨.jpHl, rfl⟩
  | .ldAtN16A n => ⟨.ldAtN16A n, rfl⟩
  | .undefinedEB => ⟨.undefinedEB, rfl⟩
  | .undefinedEC => ⟨.undefinedEC, rfl⟩
  | .undefinedED => ⟨.undefinedED, rfl⟩
  | .xorAN8 n => ⟨.aluN8 .xor n, rfl⟩
  | .rst28 => ⟨.rst .b5, rfl⟩
  | .ldhAAtN8 n => ⟨.ldhAAtN8 n, rfl⟩
  | .popAf => ⟨.pop .af, rfl⟩
  | .ldhAAtC => ⟨.ldhAAtC, rfl⟩
  | .di => ⟨.di, rfl⟩
  | .undefinedF4 => ⟨.undefinedF4, rfl⟩
  | .pushAf => ⟨.push .af, rfl⟩
  | .orAN8 n => ⟨.aluN8 .or n, rfl⟩
  | .rst30 => ⟨.rst .b6, rfl⟩
  | .ldHlSpE8 n => ⟨.ldHlSpE8 n, rfl⟩
  | .ldSpHl => ⟨.ldSpHl, rfl⟩
  | .ldAAtN16 n => ⟨.ldAAtN16 n, rfl⟩
  | .ei => ⟨.ei, rfl⟩
  | .undefinedFC => ⟨.undefinedFC, rfl⟩
  | .undefinedFD => ⟨.undefinedFD, rfl⟩
  | .cpAN8 n => ⟨.aluN8 .cp n, rfl⟩
  | .rst38 => ⟨.rst .b7, rfl⟩
  | .rlcB => ⟨.shiftR .rlc .b, rfl⟩
  | .rlcC => ⟨.shiftR .rlc .c, rfl⟩
  | .rlcD => ⟨.shiftR .rlc .d, rfl⟩
  | .rlcE => ⟨.shiftR .rlc .e, rfl⟩
  | .rlcH => ⟨.shiftR .rlc .h, rfl⟩
  | .rlcL => ⟨.shiftR .rlc .l, rfl⟩
  | .rlcAtHl => ⟨.shiftAtHl .rlc, rfl⟩
  | .rlcA => ⟨.shiftR .rlc .a, rfl⟩
  | .rrcB => ⟨.shiftR .rrc .b, rfl⟩
  | .rrcC => ⟨.shiftR .rrc .c, rfl⟩
  | .rrcD => ⟨.shiftR .rrc .d, rfl⟩
  | .rrcE => ⟨.shiftR .rrc .e, rfl⟩
  | .rrcH => ⟨.shiftR .rrc .h, rfl⟩
  | .rrcL => ⟨.shiftR .rrc .l, rfl⟩
  | .rrcAtHl => ⟨.shiftAtHl .rrc, rfl⟩
  | .rrcA => ⟨.shiftR .rrc .a, rfl⟩
  | .rlB => ⟨.shiftR .rl .b, rfl⟩
  | .rlC => ⟨.shiftR .rl .c, rfl⟩
  | .rlD => ⟨.shiftR .rl .d, rfl⟩
  | .rlE => ⟨.shiftR .rl .e, rfl⟩
  | .rlH => ⟨.shiftR .rl .h, rfl⟩
  | .rlL => ⟨.shiftR .rl .l, rfl⟩
  | .rlAtHl => ⟨.shiftAtHl .rl, rfl⟩
  | .rlA => ⟨.shiftR .rl .a, rfl⟩
  | .rrB => ⟨.shiftR .rr .b, rfl⟩
  | .rrC => ⟨.shiftR .rr .c, rfl⟩
  | .rrD => ⟨.shiftR .rr .d, rfl⟩
  | .rrE => ⟨.shiftR .rr .e, rfl⟩
  | .rrH => ⟨.shiftR .rr .h, rfl⟩
  | .rrL => ⟨.shiftR .rr .l, rfl⟩
  | .rrAtHl => ⟨.shiftAtHl .rr, rfl⟩
  | .rrA => ⟨.shiftR .rr .a, rfl⟩
  | .slaB => ⟨.shiftR .sla .b, rfl⟩
  | .slaC => ⟨.shiftR .sla .c, rfl⟩
  | .slaD => ⟨.shiftR .sla .d, rfl⟩
  | .slaE => ⟨.shiftR .sla .e, rfl⟩
  | .slaH => ⟨.shiftR .sla .h, rfl⟩
  | .slaL => ⟨.shiftR .sla .l, rfl⟩
  | .slaAtHl => ⟨.shiftAtHl .sla, rfl⟩
  | .slaA => ⟨.shiftR .sla .a, rfl⟩
  | .sraB => ⟨.shiftR .sra .b, rfl⟩
  | .sraC => ⟨.shiftR .sra .c, rfl⟩
  | .sraD => ⟨.shiftR .sra .d, rfl⟩
  | .sraE => ⟨.shiftR .sra .e, rfl⟩
  | .sraH => ⟨.shiftR .sra .h, rfl⟩
  | .sraL => ⟨.shiftR .sra .l, rfl⟩
  | .sraAtHl => ⟨.shiftAtHl .sra, rfl⟩
  | .sraA => ⟨.shiftR .sra .a, rfl⟩
  | .swapB => ⟨.shiftR .swap .b, rfl⟩
  | .swapC => ⟨.shiftR .swap .c, rfl⟩
  | .swapD => ⟨.shiftR .swap .d, rfl⟩
  | .swapE => ⟨.shiftR .swap .e, rfl⟩
  | .swapH => ⟨.shiftR .swap .h, rfl⟩
  | .swapL => ⟨.shiftR .swap .l, rfl⟩
  | .swapAtHl => ⟨.shiftAtHl .swap, rfl⟩
  | .swapA => ⟨.shiftR .swap .a, rfl⟩
  | .srlB => ⟨.shiftR .srl .b, rfl⟩
  | .srlC => ⟨.shiftR .srl .c, rfl⟩
  | .srlD => ⟨.shiftR .srl .d, rfl⟩
  | .srlE => ⟨.shiftR .srl .e, rfl⟩
  | .srlH => ⟨.shiftR .srl .h, rfl⟩
  | .srlL => ⟨.shiftR .srl .l, rfl⟩
  | .srlAtHl => ⟨.shiftAtHl .srl, rfl⟩
  | .srlA => ⟨.shiftR .srl .a, rfl⟩
  | .bit0B => ⟨.bitR .b0 .b, rfl⟩
  | .bit0C => ⟨.bitR .b0 .c, rfl⟩
  | .bit0D => ⟨.bitR .b0 .d, rfl⟩
  | .bit0E => ⟨.bitR .b0 .e, rfl⟩
  | .bit0H => ⟨.bitR .b0 .h, rfl⟩
  | .bit0L => ⟨.bitR .b0 .l, rfl⟩
  | .bit0AtHl => ⟨.bitAtHl .b0, rfl⟩
  | .bit0A => ⟨.bitR .b0 .a, rfl⟩
  | .bit1B => ⟨.bitR .b1 .b, rfl⟩
  | .bit1C => ⟨.bitR .b1 .c, rfl⟩
  | .bit1D => ⟨.bitR .b1 .d, rfl⟩
  | .bit1E => ⟨.bitR .b1 .e, rfl⟩
  | .bit1H => ⟨.bitR .b1 .h, rfl⟩
  | .bit1L => ⟨.bitR .b1 .l, rfl⟩
  | .bit1AtHl => ⟨.bitAtHl .b1, rfl⟩
  | .bit1A => ⟨.bitR .b1 .a, rfl⟩
  | .bit2B => ⟨.bitR .b2 .b, rfl⟩
  | .bit2C => ⟨.bitR .b2 .c, rfl⟩
  | .bit2D => ⟨.bitR .b2 .d, rfl⟩
  | .bit2E => ⟨.bitR .b2 .e, rfl⟩
  | .bit2H => ⟨.bitR .b2 .h, rfl⟩
  | .bit2L => ⟨.bitR .b2 .l, rfl⟩
  | .bit2AtHl => ⟨.bitAtHl .b2, rfl⟩
  | .bit2A => ⟨.bitR .b2 .a, rfl⟩
  | .bit3B => ⟨.bitR .b3 .b, rfl⟩
  | .bit3C => ⟨.bitR .b3 .c, rfl⟩
  | .bit3D => ⟨.bitR .b3 .d, rfl⟩
  | .bit3E => ⟨.bitR .b3 .e, rfl⟩
  | .bit3H => ⟨.bitR .b3 .h, rfl⟩
  | .bit3L => ⟨.bitR .b3 .l, rfl⟩
  | .bit3AtHl => ⟨.bitAtHl .b3, rfl⟩
  | .bit3A => ⟨.bitR .b3 .a, rfl⟩
  | .bit4B => ⟨.bitR .b4 .b, rfl⟩
  | .bit4C => ⟨.bitR .b4 .c, rfl⟩
  | .bit4D => ⟨.bitR .b4 .d, rfl⟩
  | .bit4E => ⟨.bitR .b4 .e, rfl⟩
  | .bit4H => ⟨.bitR .b4 .h, rfl⟩
  | .bit4L => ⟨.bitR .b4 .l, rfl⟩
  | .bit4AtHl => ⟨.bitAtHl .b4, rfl⟩
  | .bit4A => ⟨.bitR .b4 .a, rfl⟩
  | .bit5B => ⟨.bitR .b5 .b, rfl⟩
  | .bit5C => ⟨.bitR .b5 .c, rfl⟩
  | .bit5D => ⟨.bitR .b5 .d, rfl⟩
  | .bit5E => ⟨.bitR .b5 .e, rfl⟩
  | .bit5H => ⟨.bitR .b5 .h, rfl⟩
  | .bit5L => ⟨.bitR .b5 .l, rfl⟩
  | .bit5AtHl => ⟨.bitAtHl .b5, rfl⟩
  | .bit5A => ⟨.bitR .b5 .a, rfl⟩
  | .bit6B => ⟨.bitR .b6 .b, rfl⟩
  | .bit6C => ⟨.bitR .b6 .c, rfl⟩
  | .bit6D => ⟨.bitR .b6 .d, rfl⟩
  | .bit6E => ⟨.bitR .b6 .e, rfl⟩
  | .bit6H => ⟨.bitR .b6 .h, rfl⟩
  | .bit6L => ⟨.bitR .b6 .l, rfl⟩
  | .bit6AtHl => ⟨.bitAtHl .b6, rfl⟩
  | .bit6A => ⟨.bitR .b6 .a, rfl⟩
  | .bit7B => ⟨.bitR .b7 .b, rfl⟩
  | .bit7C => ⟨.bitR .b7 .c, rfl⟩
  | .bit7D => ⟨.bitR .b7 .d, rfl⟩
  | .bit7E => ⟨.bitR .b7 .e, rfl⟩
  | .bit7H => ⟨.bitR .b7 .h, rfl⟩
  | .bit7L => ⟨.bitR .b7 .l, rfl⟩
  | .bit7AtHl => ⟨.bitAtHl .b7, rfl⟩
  | .bit7A => ⟨.bitR .b7 .a, rfl⟩
  | .res0B => ⟨.resR .b0 .b, rfl⟩
  | .res0C => ⟨.resR .b0 .c, rfl⟩
  | .res0D => ⟨.resR .b0 .d, rfl⟩
  | .res0E => ⟨.resR .b0 .e, rfl⟩
  | .res0H => ⟨.resR .b0 .h, rfl⟩
  | .res0L => ⟨.resR .b0 .l, rfl⟩
  | .res0AtHl => ⟨.resAtHl .b0, rfl⟩
  | .res0A => ⟨.resR .b0 .a, rfl⟩
  | .res1B => ⟨.resR .b1 .b, rfl⟩
  | .res1C => ⟨.resR .b1 .c, rfl⟩
  | .res1D => ⟨.resR .b1 .d, rfl⟩
  | .res1E => ⟨.resR .b1 .e, rfl⟩
  | .res1H => ⟨.resR .b1 .h, rfl⟩
  | .res1L => ⟨.resR .b1 .l, rfl⟩
  | .res1AtHl => ⟨.resAtHl .b1, rfl⟩
  | .res1A => ⟨.resR .b1 .a, rfl⟩
  | .res2B => ⟨.resR .b2 .b, rfl⟩
  | .res2C => ⟨.resR .b2 .c, rfl⟩
  | .res2D => ⟨.resR .b2 .d, rfl⟩
  | .res2E => ⟨.resR .b2 .e, rfl⟩
  | .res2H => ⟨.resR .b2 .h, rfl⟩
  | .res2L => ⟨.resR .b2 .l, rfl⟩
  | .res2AtHl => ⟨.resAtHl .b2, rfl⟩
  | .res2A => ⟨.resR .b2 .a, rfl⟩
  | .res3B => ⟨.resR .b3 .b, rfl⟩
  | .res3C => ⟨.resR .b3 .c, rfl⟩
  | .res3D => ⟨.resR .b3 .d, rfl⟩
  | .res3E => ⟨.resR .b3 .e, rfl⟩
  | .res3H => ⟨.resR .b3 .h, rfl⟩
  | .res3L => ⟨.resR .b3 .l, rfl⟩
  | .res3AtHl => ⟨.resAtHl .b3, rfl⟩
  | .res3A => ⟨.resR .b3 .a, rfl⟩
  | .res4B => ⟨.resR .b4 .b, rfl⟩
  | .res4C => ⟨.resR .b4 .c, rfl⟩
  | .res4D => ⟨.resR .b4 .d, rfl⟩
  | .res4E => ⟨.resR .b4 .e, rfl⟩
  | .res4H => ⟨.resR .b4 .h, rfl⟩
  | .res4L => ⟨.resR .b4 .l, rfl⟩
  | .res4AtHl => ⟨.resAtHl .b4, rfl⟩
  | .res4A => ⟨.resR .b4 .a, rfl⟩
  | .res5B => ⟨.resR .b5 .b, rfl⟩
  | .res5C => ⟨.resR .b5 .c, rfl⟩
  | .res5D => ⟨.resR .b5 .d, rfl⟩
  | .res5E => ⟨.resR .b5 .e, rfl⟩
  | .res5H => ⟨.resR .b5 .h, rfl⟩
  | .res5L => ⟨.resR .b5 .l, rfl⟩
  | .res5AtHl => ⟨.resAtHl .b5, rfl⟩
  | .res5A => ⟨.resR .b5 .a, rfl⟩
  | .res6B => ⟨.resR .b6 .b, rfl⟩
  | .res6C => ⟨.resR .b6 .c, rfl⟩
  | .res6D => ⟨.resR .b6 .d, rfl⟩
  | .res6E => ⟨.resR .b6 .e, rfl⟩
  | .res6H => ⟨.resR .b6 .h, rfl⟩
  | .res6L => ⟨.resR .b6 .l, rfl⟩
  | .res6AtHl => ⟨.resAtHl .b6, rfl⟩
  | .res6A => ⟨.resR .b6 .a, rfl⟩
  | .res7B => ⟨.resR .b7 .b, rfl⟩
  | .res7C => ⟨.resR .b7 .c, rfl⟩
  | .res7D => ⟨.resR .b7 .d, rfl⟩
  | .res7E => ⟨.resR .b7 .e, rfl⟩
  | .res7H => ⟨.resR .b7 .h, rfl⟩
  | .res7L => ⟨.resR .b7 .l, rfl⟩
  | .res7AtHl => ⟨.resAtHl .b7, rfl⟩
  | .res7A => ⟨.resR .b7 .a, rfl⟩
  | .set0B => ⟨.setR .b0 .b, rfl⟩
  | .set0C => ⟨.setR .b0 .c, rfl⟩
  | .set0D => ⟨.setR .b0 .d, rfl⟩
  | .set0E => ⟨.setR .b0 .e, rfl⟩
  | .set0H => ⟨.setR .b0 .h, rfl⟩
  | .set0L => ⟨.setR .b0 .l, rfl⟩
  | .set0AtHl => ⟨.setAtHl .b0, rfl⟩
  | .set0A => ⟨.setR .b0 .a, rfl⟩
  | .set1B => ⟨.setR .b1 .b, rfl⟩
  | .set1C => ⟨.setR .b1 .c, rfl⟩
  | .set1D => ⟨.setR .b1 .d, rfl⟩
  | .set1E => ⟨.setR .b1 .e, rfl⟩
  | .set1H => ⟨.setR .b1 .h, rfl⟩
  | .set1L => ⟨.setR .b1 .l, rfl⟩
  | .set1AtHl => ⟨.setAtHl .b1, rfl⟩
  | .set1A => ⟨.setR .b1 .a, rfl⟩
  | .set2B => ⟨.setR .b2 .b, rfl⟩
  | .set2C => ⟨.setR .b2 .c, rfl⟩
  | .set2D => ⟨.setR .b2 .d, rfl⟩
  | .set2E => ⟨.setR .b2 .e, rfl⟩
  | .set2H => ⟨.setR .b2 .h, rfl⟩
  | .set2L => ⟨.setR .b2 .l, rfl⟩
  | .set2AtHl => ⟨.setAtHl .b2, rfl⟩
  | .set2A => ⟨.setR .b2 .a, rfl⟩
  | .set3B => ⟨.setR .b3 .b, rfl⟩
  | .set3C => ⟨.setR .b3 .c, rfl⟩
  | .set3D => ⟨.setR .b3 .d, rfl⟩
  | .set3E => ⟨.setR .b3 .e, rfl⟩
  | .set3H => ⟨.setR .b3 .h, rfl⟩
  | .set3L => ⟨.setR .b3 .l, rfl⟩
  | .set3AtHl => ⟨.setAtHl .b3, rfl⟩
  | .set3A => ⟨.setR .b3 .a, rfl⟩
  | .set4B => ⟨.setR .b4 .b, rfl⟩
  | .set4C => ⟨.setR .b4 .c, rfl⟩
  | .set4D => ⟨.setR .b4 .d, rfl⟩
  | .set4E => ⟨.setR .b4 .e, rfl⟩
  | .set4H => ⟨.setR .b4 .h, rfl⟩
  | .set4L => ⟨.setR .b4 .l, rfl⟩
  | .set4AtHl => ⟨.setAtHl .b4, rfl⟩
  | .set4A => ⟨.setR .b4 .a, rfl⟩
  | .set5B => ⟨.setR .b5 .b, rfl⟩
  | .set5C => ⟨.setR .b5 .c, rfl⟩
  | .set5D => ⟨.setR .b5 .d, rfl⟩
  | .set5E => ⟨.setR .b5 .e, rfl⟩
  | .set5H => ⟨.setR .b5 .h, rfl⟩
  | .set5L => ⟨.setR .b5 .l, rfl⟩
  | .set5AtHl => ⟨.setAtHl .b5, rfl⟩
  | .set5A => ⟨.setR .b5 .a, rfl⟩
  | .set6B => ⟨.setR .b6 .b, rfl⟩
  | .set6C => ⟨.setR .b6 .c, rfl⟩
  | .set6D => ⟨.setR .b6 .d, rfl⟩
  | .set6E => ⟨.setR .b6 .e, rfl⟩
  | .set6H => ⟨.setR .b6 .h, rfl⟩
  | .set6L => ⟨.setR .b6 .l, rfl⟩
  | .set6AtHl => ⟨.setAtHl .b6, rfl⟩
  | .set6A => ⟨.setR .b6 .a, rfl⟩
  | .set7B => ⟨.setR .b7 .b, rfl⟩
  | .set7C => ⟨.setR .b7 .c, rfl⟩
  | .set7D => ⟨.setR .b7 .d, rfl⟩
  | .set7E => ⟨.setR .b7 .e, rfl⟩
  | .set7H => ⟨.setR .b7 .h, rfl⟩
  | .set7L => ⟨.setR .b7 .l, rfl⟩
  | .set7AtHl => ⟨.setAtHl .b7, rfl⟩
  | .set7A => ⟨.setR .b7 .a, rfl⟩

variable (s : State)

/-! ### What each form runs -/

theorem exec_formLdRR (dst r : R8) : exec (formLdRR dst r) s = ldRegReg dst r s := by cases dst <;> cases r <;> rfl
theorem exec_formLdRN8 (dst : R8) (n : Byte) : exec (formLdRN8 dst n) s = ldRegImm dst n s := by cases dst <;> rfl
theorem exec_formLdRAtHl (dst : R8) : exec (formLdRAtHl dst) s = ldRegAtHl dst s := by cases dst <;> rfl
theorem exec_formLdAtHlR (r : R8) : exec (formLdAtHlR r) s = ldAtHlReg r s := by cases r <;> rfl
theorem exec_formLdRrN16 (dst : R16) (n : Word) : exec (formLdRrN16 dst n) s = ldPairImm dst n s := by cases dst <;> rfl
theorem exec_formPop (dst : R16Stk) : exec (formPop dst) s = popPair dst s := by cases dst <;> rfl
theorem exec_formPush (r : R16Stk) : exec (formPush r) s = pushPair r s := by cases r <;> rfl
theorem exec_formAluR (op : AluOp) (r : R8) : exec (formAluR op r) s = aluOn op (s.r8 r) s := by
  cases op <;> cases r <;> rfl
theorem exec_formAluAtHl (op : AluOp) : exec (formAluAtHl op) s = aluOn op (memRead s s.cpu.hl) s := by cases op <;> rfl
theorem exec_formAluN8 (op : AluOp) (n : Byte) : exec (formAluN8 op n) s = aluOn op n s := by cases op <;> rfl
theorem exec_aluInstr (op : AluOp) (src : AluSource) : exec (src.instr op) s = aluOn op (src.value s) s := by
  cases src
  · exact exec_formAluR s op _
  · exact exec_formAluAtHl s op
  · exact exec_formAluN8 s op _
theorem exec_formIncR (r : R8) : exec (formIncR r) s = incReg r s := by cases r <;> rfl
theorem exec_formDecR (r : R8) : exec (formDecR r) s = decReg r s := by cases r <;> rfl
theorem exec_formIncRr (r : R16) : exec (formIncRr r) s = addPair r 1 s := by cases r <;> rfl
theorem exec_formDecRr (r : R16) : exec (formDecRr r) s = addPair r (-1) s := by cases r <;> rfl
theorem exec_formAddHlRr (r : R16) : exec (formAddHlRr r) s = addHlPair r s := by cases r <;> rfl
theorem exec_formShiftR (k : ShiftKind) (r : R8) : exec (formShiftR k r) s = shiftReg k r s := by
  cases k <;> cases r <;> rfl
theorem exec_formShiftAtHl (k : ShiftKind) : exec (formShiftAtHl k) s = shiftAtHl k s := by cases k <;> rfl
theorem exec_formBitR (b : Bit3) (r : R8) : exec (formBitR b r) s = bitTest b (s.r8 r) s := by cases b <;> cases r <;> rfl
theorem exec_formBitAtHl (b : Bit3) : exec (formBitAtHl b) s = bitTest b (memRead s s.cpu.hl) s := by cases b <;> rfl
theorem exec_formResR (b : Bit3) (r : R8) : exec (formResR b r) s = resReg b r s := by cases b <;> cases r <;> rfl
theorem exec_formResAtHl (b : Bit3) : exec (formResAtHl b) s = resAtHl b s := by cases b <;> rfl
theorem exec_formSetR (b : Bit3) (r : R8) : exec (formSetR b r) s = setReg b r s := by cases b <;> cases r <;> rfl
theorem exec_formSetAtHl (b : Bit3) : exec (formSetAtHl b) s = setAtHl b s := by cases b <;> rfl
theorem exec_formJpCc (cc : Cond) (n : Word) : exec (formJpCc cc n) s = onCond cc (jumpTo n) s := by cases cc <;> rfl
theorem exec_formJrCc (cc : Cond) (e : Byte) : exec (formJrCc cc e) s = onCond cc (jumpRel e) s := by cases cc <;> rfl
theorem exec_formCallCc (cc : Cond) (n : Word) : exec (formCallCc cc n) s = onCond cc (callTo n) s := by cases cc <;> rfl
theorem exec_formRetCc (cc : Cond) : exec (formRetCc cc) s = onCond cc returnNow s := by cases cc <;> rfl
theorem exec_formRst (k : Bit3) : exec (formRst k) s = callTo (rstTarget k) s := by cases k <;> rfl

end Sys2Proof.Machine
end

