-- ==== Sys2Proof/Laws/Exec.lean ====
section
/-!
SUPPORT. What any instruction can do, once for all 512: it completes unless its byte is undefined, it changes the CPU
registers, the memory image and the serial history only, and it keeps the canonical memory, F[3:0] = 0 and the ROM bytes.
-/

namespace Sys2Proof.Machine

/-- What an instruction's effect keeps, whatever the instruction. -/
structure Tame (s t : State) : Prop where
  frame : OnlyCpuMemSerial s t
  memory : Memory.wf s.mem → Memory.wf t.mem
  flags : s.cpu.flagsOk → t.cpu.flagsOk
  rom : ∀ x : Word, x.toNat ≤ 0x7FFF → directRead t x = directRead s x

variable {s t u : State}

theorem Tame.refl (s : State) : Tame s s := ⟨rfl, id, id, fun _ _ => rfl⟩

theorem Tame.trans (h : Tame s t) (k : Tame t u) : Tame s u :=
  ⟨h.frame.trans k.frame, k.memory ∘ h.memory, k.flags ∘ h.flags, fun x hx => (k.rom x hx).trans (h.rom x hx)⟩

theorem OnlyCpu.tame (h : OnlyCpu s t) (hf : s.cpu.flagsOk → t.cpu.flagsOk) : Tame s t := by
  refine ⟨h.cpuMemSerial, ?_, hf, fun x _ => h.sameMemory x⟩
  unfold OnlyCpu at h
  rw [← h]; exact id

theorem State.tame_setR8 (s : State) (r : R8) (v : Byte) : Tame s (s.setR8 r v) :=
  (s.onlyCpu_setR8 r v).tame (s.flagsOk_setR8 r v)
theorem State.tame_setFlags (s : State) (g : Flags) : Tame s (s.setFlags g) :=
  (s.onlyCpu_setFlags g).tame (fun _ => s.flagsOk_setFlags g)
theorem State.tame_setR16 (s : State) (r : R16) (v : Word) : Tame s (s.setR16 r v) :=
  (s.onlyCpu_setR16 r v).tame (s.flagsOk_setR16 r v)
theorem State.tame_setR16Stk (s : State) (r : R16Stk) (v : Word) : Tame s (s.setR16Stk r v) :=
  (s.onlyCpu_setR16Stk r v).tame (s.flagsOk_setR16Stk r v)
theorem State.tame_setHl (s : State) (v : Word) : Tame s (s.setHl v) := OnlyCpu.tame rfl id
theorem State.tame_setSp (s : State) (v : Word) : Tame s (s.setSp v) := OnlyCpu.tame rfl id
theorem State.tame_setPc (s : State) (v : Word) : Tame s (s.setPc v) := OnlyCpu.tame rfl id
theorem State.tame_setIme (s : State) (v : Bool) : Tame s (s.setIme v) := OnlyCpu.tame rfl id
theorem State.tame_setPrefixOp (s : State) (v : Bool) : Tame s (s.setPrefixOp v) := OnlyCpu.tame rfl id

theorem tame_memWrite (s : State) (a : Word) (v : Byte) : Tame s (memWrite s a v) :=
  ⟨onlyCpuMemSerial_memWrite s a v, wf_memWrite s a v, by rw [memWrite_cpu]; exact id,
   fun _ hx => (storesByte_memWrite s a v).rom hx⟩
theorem tame_memWrite16 (s : State) (a v : Word) : Tame s (memWrite16 s a v) :=
  (tame_memWrite s a _).trans (tame_memWrite _ _ _)
theorem tame_push16 (s : State) (v : Word) : Tame s (push16 s v) :=
  (s.tame_setSp _).trans (tame_memWrite16 _ _ _)
theorem tame_popState (s : State) : Tame s (popState s) := s.tame_setSp _

/-- Taking an interrupt is tame too. -/
theorem tame_takeInterrupt (s : State) (k : Nat) : Tame s (takeInterrupt s k) := by
  have h := (tame_push16 s s.cpu.pc).trans ((push16 s s.cpu.pc).tame_setPc (interruptVector k))
  unfold takeInterrupt
  split
  · exact h.trans (State.tame_setIme _ _)
  · exact h

theorem tame_returnFromInterrupt (s : State) : Tame s (returnFromInterrupt s) :=
  ((tame_popState s).trans (State.tame_setPc _ _)).trans (State.tame_setIme _ _)

/-- The result is a next state that was reached tamely. -/
inductive ExecResult (s : State) : Result → Prop where
  | done (t : State) (h : Tame s t) : ExecResult s (.next t)

theorem aluOn_result (op : AluOp) (b : Byte) (s : State) : ExecResult s (aluOn op b s) := by
  cases op <;> exact .done _ (by first | exact s.tame_setFlags _ | exact (s.tame_setR8 _ _).trans (State.tame_setFlags _ _))

theorem onCond_result (cc : Cond) (f : State → Result) (s : State) (h : ExecResult s (f s)) :
    ExecResult s (onCond cc f s) := by
  unfold onCond; split
  · exact h
  · exact .done _ (Tame.refl s)

theorem jumpTo_result (v : Word) (s : State) : ExecResult s (jumpTo v s) := .done _ (s.tame_setPc _)
theorem jumpRel_result (e : Byte) (s : State) : ExecResult s (jumpRel e s) := .done _ (s.tame_setPc _)
theorem callTo_result (v : Word) (s : State) : ExecResult s (callTo v s) :=
  .done _ ((tame_push16 s _).trans (State.tame_setPc _ _))
theorem returnNow_result (s : State) : ExecResult s (returnNow s) :=
  .done _ ((tame_popState s).trans (State.tame_setPc _ _))
theorem setFlagsAfterR8_result (s : State) (r : R8) (v : Byte) (g : Flags) :
    ExecResult s (.next ((s.setR8 r v).setFlags g)) := .done _ ((s.tame_setR8 r v).trans (State.tame_setFlags _ _))
theorem setFlagsAfterWrite_result (s : State) (a : Word) (v : Byte) (g : Flags) :
    ExecResult s (.next ((memWrite s a v).setFlags g)) := .done _ ((tame_memWrite s a v).trans (State.tame_setFlags _ _))

theorem haltBy_result (p : HaltPolicy) (s : State) : ExecResult s (haltBy p s) := by
  unfold haltBy
  cases p
  · exact .done _ (Tame.refl s)
  · dsimp only
    split
    · exact .done _ (s.tame_setPc _)
    · exact .done _ (Tame.refl s)

/-- Every instruction but the undefined bytes completes, tamely. -/
theorem exec_result (i : Instr) (s : State) (h : isUndefined i = false) : ExecResult s (exec i s) := by
  obtain ⟨k, rfl⟩ := exists_shape i
  cases k <;> simp only [Shape.instr] at h ⊢
  case ldRR => rw [exec_formLdRR]; exact .done _ (s.tame_setR8 _ _)
  case ldRN8 => rw [exec_formLdRN8]; exact .done _ (s.tame_setR8 _ _)
  case ldRAtHl => rw [exec_formLdRAtHl]; exact .done _ (s.tame_setR8 _ _)
  case ldAtHlR => rw [exec_formLdAtHlR]; exact .done _ (tame_memWrite s _ _)
  case ldAtHlN8 => exact .done _ (tame_memWrite s _ _)
  case ldAAtBc => exact .done _ (s.tame_setR8 _ _)
  case ldAAtDe => exact .done _ (s.tame_setR8 _ _)
  case ldAtBcA => exact .done _ (tame_memWrite s _ _)
  case ldAtDeA => exact .done _ (tame_memWrite s _ _)
  case ldAAtN16 => exact .done _ (s.tame_setR8 _ _)
  case ldAtN16A => exact .done _ (tame_memWrite s _ _)
  case ldhAAtC => exact .done _ (s.tame_setR8 _ _)
  case ldhAtCA => exact .done _ (tame_memWrite s _ _)
  case ldhAAtN8 => exact .done _ (s.tame_setR8 _ _)
  case ldhAtN8A => exact .done _ (tame_memWrite s _ _)
  case ldAAtHlInc => exact .done _ ((s.tame_setR8 _ _).trans (State.tame_setHl _ _))
  case ldAAtHlDec => exact .done _ ((s.tame_setR8 _ _).trans (State.tame_setHl _ _))
  case ldAtHlIncA => exact .done _ ((tame_memWrite s _ _).trans (State.tame_setHl _ _))
  case ldAtHlDecA => exact .done _ ((tame_memWrite s _ _).trans (State.tame_setHl _ _))
  case ldRrN16 => rw [exec_formLdRrN16]; exact .done _ (s.tame_setR16 _ _)
  case ldAtN16Sp => exact .done _ (tame_memWrite16 s _ _)
  case ldSpHl => exact .done _ (s.tame_setSp _)
  case pop => rw [exec_formPop]; exact .done _ ((tame_popState s).trans (State.tame_setR16Stk _ _ _))
  case push => rw [exec_formPush]; exact .done _ (tame_push16 s _)
  case aluR => rw [exec_formAluR]; exact aluOn_result _ _ s
  case aluAtHl => rw [exec_formAluAtHl]; exact aluOn_result _ _ s
  case aluN8 => rw [exec_formAluN8]; exact aluOn_result _ _ s
  case incR => rw [exec_formIncR]; exact setFlagsAfterR8_result s _ _ _
  case decR => rw [exec_formDecR]; exact setFlagsAfterR8_result s _ _ _
  case incAtHl => exact setFlagsAfterWrite_result s _ _ _
  case decAtHl => exact setFlagsAfterWrite_result s _ _ _
  case daa => exact setFlagsAfterR8_result s _ _ _
  case cpl => exact setFlagsAfterR8_result s _ _ _
  case scf => exact .done _ (s.tame_setFlags _)
  case ccf => exact .done _ (s.tame_setFlags _)
  case incRr => rw [exec_formIncRr]; exact .done _ (s.tame_setR16 _ _)
  case decRr => rw [exec_formDecRr]; exact .done _ (s.tame_setR16 _ _)
  case addHlRr => rw [exec_formAddHlRr]; exact .done _ ((s.tame_setHl _).trans (State.tame_setFlags _ _))
  case addSpE8 => exact .done _ ((s.tame_setSp _).trans (State.tame_setFlags _ _))
  case ldHlSpE8 => exact .done _ ((s.tame_setHl _).trans (State.tame_setFlags _ _))
  case rlca => exact setFlagsAfterR8_result s _ _ _
  case rrca => exact setFlagsAfterR8_result s _ _ _
  case rla => exact setFlagsAfterR8_result s _ _ _
  case rra => exact setFlagsAfterR8_result s _ _ _
  case shiftR => rw [exec_formShiftR]; exact setFlagsAfterR8_result s _ _ _
  case shiftAtHl => rw [exec_formShiftAtHl]; exact setFlagsAfterWrite_result s _ _ _
  case bitR => rw [exec_formBitR]; exact .done _ (s.tame_setFlags _)
  case bitAtHl => rw [exec_formBitAtHl]; exact .done _ (s.tame_setFlags _)
  case resR => rw [exec_formResR]; exact .done _ (s.tame_setR8 _ _)
  case resAtHl => rw [exec_formResAtHl]; exact .done _ (tame_memWrite s _ _)
  case setR => rw [exec_formSetR]; exact .done _ (s.tame_setR8 _ _)
  case setAtHl => rw [exec_formSetAtHl]; exact .done _ (tame_memWrite s _ _)
  case jpN16 => exact jumpTo_result _ s
  case jpCc => rw [exec_formJpCc]; exact onCond_result _ _ s (jumpTo_result _ s)
  case jpHl => exact jumpTo_result _ s
  case jrE8 => exact jumpRel_result _ s
  case jrCc => rw [exec_formJrCc]; exact onCond_result _ _ s (jumpRel_result _ s)
  case callN16 => exact callTo_result _ s
  case callCc => rw [exec_formCallCc]; exact onCond_result _ _ s (callTo_result _ s)
  case ret => exact returnNow_result s
  case retCc => rw [exec_formRetCc]; exact onCond_result _ _ s (returnNow_result s)
  case reti => exact .done _ (tame_returnFromInterrupt s)
  case rst => rw [exec_formRst]; exact callTo_result _ s
  case nop => exact .done _ (Tame.refl s)
  case halt => exact haltBy_result _ s
  case stop => exact .done _ (Tame.refl s)
  case di => exact .done _ (s.tame_setIme _)
  case ei => exact .done _ (s.tame_setIme _)
  case prefixCb => exact .done _ (s.tame_setPrefixOp _)
  all_goals exact absurd h (by decide)

/-- An undefined byte faults: it has no next state and is not refused. -/
theorem exec_undefined (i : Instr) (s : State) (h : isUndefined i = true) :
    exec i s = .fault (.undefinedOpcode (directRead s s.pc0) s.pc0) := by
  have hm : i ∈ undefinedForms := by simpa [isUndefined] using h
  simp only [undefinedForms, List.mem_cons, List.not_mem_nil, or_false] at hm
  rcases hm with rfl | rfl | rfl | rfl | rfl | rfl | rfl | rfl | rfl | rfl | rfl <;> rfl

/-- What a completed instruction can have done. -/
theorem exec_tame {i : Instr} (h : exec i s = .next t) : Tame s t := by
  by_cases hu : isUndefined i = true
  · rw [exec_undefined i s hu] at h; cases h
  · have k := exec_result i s (by simpa using hu)
    rw [h] at k
    cases k with
    | done _ h => exact h

end Sys2Proof.Machine
end

