-- ==== Sys2Proof/Laws/Devices.lean ====
section
/-!
SUPPORT. The timer, the joypad sample, the PPU and the renderer: what each advance does to each byte, that nothing else changes,
and that the memory stays canonical.
-/

namespace Sys2Proof.Machine

variable (s : State)

theorem next_inj {a b : State} (h : (Host.Outcome.next a : Result) = .next b) : a = b := by cases h; rfl

/-! ### Timer -/

/-- What remains of the DIV budget after `c` cycles, re-armed when used up (R411). -/
def divLeft (c : Nat) : Int :=
  if s.timer.clocksTillDivInc - (c : Int) ≤ 0 then rearm (s.timer.clocksTillDivInc - c) divPeriod
  else s.timer.clocksTillDivInc - c

theorem divAdvance_timer (c : Nat) : (divAdvance s c).timer = { s.timer with clocksTillDivInc := divLeft s c } := by
  unfold divAdvance divLeft; dsimp only; split <;> rfl

theorem divAdvance_read (c : Nat) (x : Word) :
    directRead (divAdvance s c) x
      = if s.timer.clocksTillDivInc - (c : Int) ≤ 0 ∧ x = s.cfg.io.div then directRead s s.cfg.io.div + 1 else directRead s x := by
  unfold divAdvance; dsimp only
  split <;> simp [directRead_directWrite, *]

theorem divAdvance_frame (c : Nat) : (s.setMem (divAdvance s c).mem).setTimer (divAdvance s c).timer = divAdvance s c := by
  unfold divAdvance; dsimp only; split <;> rfl

theorem divAdvance_cfg (c : Nat) : (divAdvance s c).cfg = s.cfg := by rw [← divAdvance_frame]; rfl

theorem wf_divAdvance (c : Nat) (h : Memory.wf s.mem) : Memory.wf (divAdvance s c).mem := by
  unfold divAdvance; dsimp only; split
  · exact wf_directWrite s _ _ h
  · exact h

theorem timaIncrement_read (hio : IoDistinct s.cfg.io) (x : Word) :
    directRead (timaIncrement s) x
      = if x = s.cfg.io.tima then
          if directRead s s.cfg.io.tima = 0xFF#8 then if s.cfg.timaReloadFromTma then directRead s s.cfg.io.tma else 0
          else directRead s s.cfg.io.tima + 1
        else if x = s.cfg.io.ifReg ∧ directRead s s.cfg.io.tima = 0xFF#8 then directRead s s.cfg.io.ifReg ||| 4#8
        else directRead s x := by
  unfold timaIncrement ifSet; dsimp only
  split
  · simp only [directRead_directWrite, if_neg hio.tma_if]
    by_cases h : x = s.cfg.io.tima <;> by_cases h' : x = s.cfg.io.ifReg <;> simp [*]
  · simp only [directRead_directWrite]
    by_cases h : x = s.cfg.io.tima <;> simp [*]

/-- TIMA's increment changes the bytes TIMA and IF only. -/
theorem timaIncrement_read_other {x : Word} (h1 : x ≠ s.cfg.io.tima) (h2 : x ≠ s.cfg.io.ifReg) :
    directRead (timaIncrement s) x = directRead s x := by
  unfold timaIncrement ifSet; dsimp only
  split <;> simp [directRead_directWrite, h1, h2]

theorem timaIncrement_frame : s.setMem (timaIncrement s).mem = timaIncrement s := by
  unfold timaIncrement; dsimp only; split <;> rfl

theorem wf_timaIncrement (h : Memory.wf s.mem) : Memory.wf (timaIncrement s).mem := by
  unfold timaIncrement ifSet; dsimp only; split
  · exact wf_directWrite _ _ _ (wf_directWrite s _ _ h)
  · exact wf_directWrite s _ _ h

/-- What remains of the TIMA budget after `c` cycles (R412, R413). -/
def timaLeft (c : Nat) : Int :=
  if (directRead s s.cfg.io.tac).getLsbD 2 = true then
    if s.timer.clocksTillTimaInc - (c : Int) ≤ 0 then rearm (s.timer.clocksTillTimaInc - c) (timaPeriod (directRead s s.cfg.io.tac))
    else s.timer.clocksTillTimaInc - c
  else s.timer.clocksTillTimaInc

/-- TIMA is counting and its budget is used up by `c` cycles (R412). -/
abbrev timaDue (c : Nat) : Prop :=
  (directRead s s.cfg.io.tac).getLsbD 2 = true ∧ s.timer.clocksTillTimaInc - (c : Int) ≤ 0

theorem timaAdvance_timer (c : Nat) : (timaAdvance s c).timer = { s.timer with clocksTillTimaInc := timaLeft s c } := by
  unfold timaAdvance timaLeft; dsimp only
  by_cases h : (directRead s s.cfg.io.tac).getLsbD 2 = true
  · rw [if_pos h, if_pos h]; split <;> rfl
  · rw [if_neg h, if_neg h]

theorem timaAdvance_read (c : Nat) (x : Word) :
    directRead (timaAdvance s c) x = if timaDue s c then directRead (timaIncrement s) x else directRead s x := by
  unfold timaAdvance timaDue; dsimp only
  by_cases h : (directRead s s.cfg.io.tac).getLsbD 2 = true
  · rw [if_pos h]
    by_cases h' : s.timer.clocksTillTimaInc - (c : Int) ≤ 0
    · rw [if_pos h', if_pos ⟨h, h'⟩]; rfl
    · rw [if_neg h', if_neg (fun k => h' k.2)]; rfl
  · rw [if_neg h, if_neg (fun k => h k.1)]

theorem timaAdvance_frame (c : Nat) :
    (s.setMem (timaAdvance s c).mem).setTimer (timaAdvance s c).timer = timaAdvance s c := by
  unfold timaAdvance; dsimp only; split
  · split
    · show (s.setMem (timaIncrement s).mem).setTimer _ = (timaIncrement s).setTimer _
      rw [timaIncrement_frame]; rfl
    · rfl
  · rfl

theorem wf_timaAdvance (c : Nat) (h : Memory.wf s.mem) : Memory.wf (timaAdvance s c).mem := by
  unfold timaAdvance; dsimp only; split
  · split
    · exact wf_timaIncrement s h
    · exact h
  · exact h

theorem timerAdvance_frame (c : Nat) :
    (s.setMem (timerAdvance s c).mem).setTimer (timerAdvance s c).timer = timerAdvance s c := by
  unfold timerAdvance
  rw [← timaAdvance_frame (divAdvance s c) c, ← divAdvance_frame s c]; rfl

theorem timerAdvance_timer (hio : IoDistinct s.cfg.io) (c : Nat) :
    (timerAdvance s c).timer = { clocksTillDivInc := divLeft s c, clocksTillTimaInc := timaLeft s c } := by
  unfold timerAdvance
  rw [timaAdvance_timer, divAdvance_timer]
  have e : directRead (divAdvance s c) s.cfg.io.tac = directRead s s.cfg.io.tac := by
    rw [divAdvance_read, if_neg (fun h => hio.tac_div h.2)]
  unfold timaLeft
  rw [divAdvance_timer, divAdvance_cfg, e]

/-- What a timer advance leaves in each byte: DIV, TIMA and IF by R411 to R414, every other byte as before. -/
theorem timerAdvance_read (hio : IoDistinct s.cfg.io) (c : Nat) (x : Word) :
    directRead (timerAdvance s c) x
      = if x = s.cfg.io.div then
          if s.timer.clocksTillDivInc - (c : Int) ≤ 0 then directRead s s.cfg.io.div + 1 else directRead s s.cfg.io.div
        else if timaDue s c then directRead (timaIncrement s) x else directRead s x := by
  unfold timerAdvance
  have e1 : ∀ y, y ≠ s.cfg.io.div → directRead (divAdvance s c) y = directRead s y := by
    intro y hy; rw [divAdvance_read, if_neg (fun h => hy h.2)]
  have hc := divAdvance_cfg s c
  have hio' : IoDistinct (divAdvance s c).cfg.io := by rw [hc]; exact hio
  have e2 : timaDue (divAdvance s c) c ↔ timaDue s c := by
    unfold timaDue; rw [hc, e1 _ hio.tac_div, divAdvance_timer]
  rw [timaAdvance_read]
  by_cases hx : x = s.cfg.io.div
  · subst hx
    rw [timaIncrement_read_other _ (by rw [hc]; exact hio.tima_div.symm) (by rw [hc]; exact hio.if_div.symm), ite_self,
      divAdvance_read]
    simp
  · rw [if_neg hx]
    simp only [e2, timaIncrement_read _ hio', timaIncrement_read _ hio, hc, e1 _ hx, e1 _ hio.tima_div, e1 _ hio.tma_div,
      e1 _ hio.if_div]

theorem wf_timerAdvance (c : Nat) (h : Memory.wf s.mem) : Memory.wf (timerAdvance s c).mem :=
  wf_timaAdvance _ c (wf_divAdvance s c h)

/-- R42: after an advance both budgets are at least 0, if the TIMA budget was when TIMA stood still. -/
theorem timerOk_timerAdvance (c : Nat) (h : s.timer.ok) : (timerAdvance s c).timer.ok := by
  unfold timerAdvance
  rw [timaAdvance_timer, divAdvance_timer]
  obtain ⟨h1, h2⟩ := h
  unfold TimerState.ok divLeft timaLeft rearm
  rw [divAdvance_timer]
  dsimp only
  refine ⟨?_, ?_⟩
  · split <;> omega
  · split
    · split <;> omega
    · exact h2

/-- Every byte of anything but DIV, TIMA and IF is as before. -/
theorem timerAdvance_read_other (c : Nat) {x : Word} (h1 : x ≠ s.cfg.io.div) (h2 : x ≠ s.cfg.io.tima)
    (h3 : x ≠ s.cfg.io.ifReg) : directRead (timerAdvance s c) x = directRead s x := by
  have hc := divAdvance_cfg s c
  unfold timerAdvance
  rw [timaAdvance_read, timaIncrement_read_other _ (by rw [hc]; exact h2) (by rw [hc]; exact h3), ite_self, divAdvance_read,
    if_neg (fun h => h1 h.2)]

/-! ### Joypad and the start of an iteration -/

theorem joypadSample_frame : s.setMem (joypadSample s).mem = joypadSample s := rfl

theorem joypadSample_read (x : Word) :
    directRead (joypadSample s) x = if x = s.cfg.io.joyp then joypByte (directRead s s.cfg.io.joyp) s.joypad else directRead s x :=
  directRead_directWrite s _ _ x

theorem beginIteration_frame :
    (s.setMem (beginIteration s).mem).setTraceOut (beginIteration s).traceOut = (beginIteration s).setBreakFlag s.breakFlag := by
  unfold beginIteration emitTrace; split <;> rfl

theorem beginIteration_cpu : (beginIteration s).cpu = s.cpu := by unfold beginIteration emitTrace; split <;> rfl
theorem beginIteration_cfg : (beginIteration s).cfg = s.cfg := by unfold beginIteration emitTrace; split <;> rfl

theorem beginIteration_read (x : Word) : directRead (beginIteration s) x = directRead (joypadSample s) x := by
  unfold beginIteration emitTrace; split <;> rfl

theorem wf_beginIteration (h : Memory.wf s.mem) : Memory.wf (beginIteration s).mem := by
  unfold beginIteration emitTrace; split <;> exact wf_directWrite (s.setBreakFlag false) _ _ h

end Sys2Proof.Machine
end

