-- ==== Sys2Proof/Laws/Fetch.lean ====
section
/-!
SUPPORT. Looking up TABLE: what the reference table's entries are, and that fetching a reference entry gives the instruction the
decoder reads at PC.
-/

namespace Sys2Proof.Machine

/-- A row's length is the number of bytes its entry is encoded in. -/
theorem descriptor_length (i : Instr) : (descriptor i).length = (encodeEntry i).bytes.length := by cases i <;> rfl

/-- The rows with an immediate do not depend on it. -/
theorem descriptor_immediates (n : Nat) (hn : n ∈ threeByteOpcodes ∨ n ∈ twoByteOpcodes) (b1 b2 : Byte) :
    descriptor (decodeUnprefixed (BitVec.ofNat 8 n) b1 b2) = descriptor (decodeUnprefixed (BitVec.ofNat 8 n) 0 0) := by
  rcases hn with hn | hn <;> fin_cases hn <;> rfl

/-- A row does not depend on the immediate, and its length is the one its opcode byte takes. -/
theorem descriptor_decodeEntry (p : Bool) (op b1 b2 : Byte) :
    descriptor (decodeEntry p op b1 b2) = descriptor (decodeEntry p op 0 0)
    ∧ (descriptor (decodeEntry p op b1 b2)).length = entryLength p op := by
  constructor
  · by_cases h : entryLength p op = 1
    · rw [(decodeEntry_ignores p op b1 b2).1 h]
    · cases p with
      | true => exact absurd rfl h
      | false =>
        have hn := descriptor_immediates op.toNat (by by_contra hc; simp [entryLength, not_or.1 hc] at h) b1 b2
        rwa [BitVec.ofNat_toNat, BitVec.setWidth_eq] at hn
  · rw [descriptor_length, encodeEntry_decodeEntry]
    rcases entryLength_range p op with hl | hl | hl <;> rw [hl] <;> rfl

/-- The table index of a decoded entry (R121). -/
theorem tableIndex_decodeEntry (p : Bool) (op b1 b2 : Byte) :
    tableIndex (decodeEntry p op b1 b2) = op.toNat + (if p then 256 else 0) := by
  unfold tableIndex
  rw [encodeEntry_decodeEntry]
  rfl

/-- Filling in a reference kind: the entry of the same opcode byte with the loaded operand's bytes. -/
theorem fillOperands_decodeEntry (p : Bool) (op n8 : Byte) (n16 : Word) :
    fillOperands (decodeEntry p op 0 0) n8 n16
      = match entryLength p op with
        | 2 => decodeEntry p op n8 0
        | 3 => decodeEntry p op (loByte n16) (hiByte n16)
        | _ => decodeEntry p op 0 0 := by
  unfold fillOperands
  rw [encodeEntry_decodeEntry]
  rcases entryLength_range p op with h | h | h <;> rw [h] <;> rfl

/-- An index of the reference table: its region and its opcode byte (R121). -/
theorem referenceEntry_effect (mode : CycleSplit) (p : Bool) (op : Byte) :
    (referenceEntry mode (op.toNat + (if p then 256 else 0))).effect = decodeEntry p op 0 0 := by
  have hlt := op.isLt
  unfold referenceEntry
  dsimp only
  cases p with
  | false =>
    have h1 : decide (256 ≤ op.toNat + 0) = false := by simp; omega
    have h2 : BitVec.ofNat 8 (op.toNat + 0) = op := by simp
    rw [if_neg (by decide), h1, h2]
  | true =>
    have h1 : decide (256 ≤ op.toNat + 256) = true := by simp
    have h2 : BitVec.ofNat 8 (op.toNat + 256) = op := by
      apply BitVec.eq_of_toNat_eq; rw [BitVec.toNat_ofNat]; omega
    rw [if_pos rfl, h1, h2]

variable (s : State)

/-- The table does not override the index the state fetches. -/
def FetchesReference (s : State) : Prop := ∀ e ∈ s.cfg.table, e.1 ≠ fetchIndex s

theorem fetchEntry_reference (h : FetchesReference s) :
    fetchEntry s = referenceEntry s.cfg.prefixCycleSplit (fetchIndex s) := by
  unfold fetchEntry tableEntry
  rw [List.find?_eq_none.2 (fun e he => by simpa using h e he)]

theorem fetchEntry_listed {e : Nat × TableEntry} (he : e ∈ s.cfg.table) (hn : s.cfg.table.Pairwise (fun a b => a.1 < b.1))
    (hi : e.1 = fetchIndex s) : fetchEntry s = e.2 := by
  unfold fetchEntry tableEntry
  revert hn he
  generalize s.cfg.table = l
  intro he hn
  induction l with
  | nil => cases he
  | cons a l ih =>
    rw [List.pairwise_cons] at hn
    rcases List.mem_cons.1 he with rfl | he
    · rw [List.find?_cons_of_pos (by simpa using hi)]
    · rw [List.find?_cons_of_neg (by have := hn.1 e he; simp; omega)]
      exact ih he hn.2

/-- A reference entry fetched at PC: the effect is the instruction the decoder reads there, the length and the counts are those
of its row. -/
theorem fetch_reference (h : FetchesReference s) :
    fetchInstr s = decodeEntry s.cpu.prefixOp (directRead s s.cpu.pc) (directRead s (s.cpu.pc + 1)) (directRead s (s.cpu.pc + 2))
    ∧ (fetchEntry s).length = (descriptor (fetchInstr s)).length
    ∧ (fetchEntry s).mcycles = (descriptor (fetchInstr s)).charged s.cfg.prefixCycleSplit false
    ∧ (fetchEntry s).mcyclesTaken = (descriptor (fetchInstr s)).charged s.cfg.prefixCycleSplit true := by
  have hd := descriptor_decodeEntry s.cpu.prefixOp (directRead s s.cpu.pc)
  have he := referenceEntry_effect s.cfg.prefixCycleSplit s.cpu.prefixOp (directRead s s.cpu.pc)
  have hr := fetchEntry_reference s h
  have hk : descriptor (fetchEntry s).effect = descriptor (decodeEntry s.cpu.prefixOp (directRead s s.cpu.pc) 0 0)
      ∧ (fetchEntry s).effect = decodeEntry s.cpu.prefixOp (directRead s s.cpu.pc) 0 0 := by
    rw [hr, show fetchIndex s = (directRead s s.cpu.pc).toNat + (if s.cpu.prefixOp then 256 else 0) from rfl, he]
    exact ⟨rfl, rfl⟩
  have hl : (fetchEntry s).length = (descriptor (fetchEntry s).effect).length
      ∧ (fetchEntry s).mcycles = (descriptor (fetchEntry s).effect).charged s.cfg.prefixCycleSplit false
      ∧ (fetchEntry s).mcyclesTaken = (descriptor (fetchEntry s).effect).charged s.cfg.prefixCycleSplit true
      ∧ (fetchEntry s).operand1 = selectorOf (descriptor (fetchEntry s).effect).length := by
    rw [hr]; exact ⟨rfl, rfl, rfl, rfl⟩
  have hi := decodeEntry_ignores s.cpu.prefixOp (directRead s s.cpu.pc) (directRead s (s.cpu.pc + 1))
    (directRead s (s.cpu.pc + 2))
  have hf : fetchInstr s = decodeEntry s.cpu.prefixOp (directRead s s.cpu.pc) (directRead s (s.cpu.pc + 1))
      (directRead s (s.cpu.pc + 2)) := by
    unfold fetchInstr
    rw [hk.2, fillOperands_decodeEntry]
    have hlen : (descriptor (fetchEntry s).effect).length = entryLength s.cpu.prefixOp (directRead s s.cpu.pc) := by
      rw [hk.1]; exact (hd 0 0).2
    rcases entryLength_range s.cpu.prefixOp (directRead s s.cpu.pc) with hn | hn | hn <;> rw [hn]
    · exact (hi.1 hn).symm
    · rw [hi.2 hn]
      unfold loadedByte entryLoads
      rw [hl.2.2.2, hlen, hn, if_pos (by rfl)]; rfl
    · unfold loadedWord entryLoads
      rw [hl.2.2.2, hlen, hn, if_pos (by rfl)]
      unfold memRead16
      rw [loByte_wordOf, hiByte_wordOf, show s.cpu.pc + 1 + 1 = s.cpu.pc + 2 by rw [BitVec.add_assoc]; rfl]; rfl
  have hs : descriptor (fetchInstr s) = descriptor (fetchEntry s).effect := by rw [hf, (hd _ _).1, hk.1]
  rw [hs]
  exact ⟨hf, hl.1, hl.2.1, hl.2.2.1⟩

end Sys2Proof.Machine
end

