-- ==== Sys2Proof/Laws/Ppu.lean ====
section
/-!
SUPPORT. The PPU advance: the lines it crosses and renders, the bytes it writes, and what it leaves as it was.
-/

namespace Sys2Proof.Machine

variable (s : State)

/-! ### Rendering reads memory and the parameters only -/

theorem lineBytes_setLcd (l : LcdTiming) (y : Nat) : lineBytes (s.setLcd l) y = lineBytes s y := rfl
theorem lineBytes_setFramebuffer (fb : Framebuffer) (y : Nat) : lineBytes (s.setFramebuffer fb) y = lineBytes s y := rfl

theorem newScanlineEvent_eq (y : Nat) :
    newScanlineEvent s y
      = s.setFramebuffer (if y < 144 then Framebuffer.setLine s.framebuffer y (lineBytes s y) else s.framebuffer) := by
  unfold newScanlineEvent lcdHeight renderScanline
  split <;> rfl

/-- The framebuffer after the completion of `n` lines from `ly` up (R444). -/
def renderedFrom (fb : Framebuffer) (ly n : Nat) : Framebuffer :=
  (List.range n).foldl (fun fb j =>
    let y := (ly + j) % 154
    if y < 144 then Framebuffer.setLine fb y (lineBytes s y) else fb) fb

theorem renderedFrom_succ (fb : Framebuffer) (ly n : Nat) (h : ly < 154) :
    renderedFrom s fb ly (n + 1)
      = renderedFrom s (if ly < 144 then Framebuffer.setLine fb ly (lineBytes s ly) else fb) ((ly + 1) % 154) n := by
  unfold renderedFrom
  rw [List.range_succ_eq_map, List.foldl_cons, List.foldl_map, Nat.add_zero, Nat.mod_eq_of_lt h]
  dsimp only
  congr 1
  funext fb' j
  rw [show ((ly + 1) % 154 + j) % 154 = (ly + j.succ) % 154 by rw [Nat.mod_add_mod]; congr 1; omega]

theorem crossLines_succ (n : Nat) :
    crossLines (n + 1) s = if 456 ≤ s.lcd.scanlineCycles then crossLines n (crossLine s) else s := rfl

/-- The dot counter after one crossing (R443). -/
def dotsCrossed (mode : LineWrap) (sc : Nat) : Nat :=
  match mode with
  | .subtract => sc - 456
  | .zero => 0

theorem crossLine_eq (sc ly : Nat) (fb : Framebuffer) :
    crossLine ((s.setLcd ⟨sc, ly⟩).setFramebuffer fb)
      = (s.setLcd ⟨dotsCrossed s.cfg.lineWrap sc, (ly + 1) % 154⟩).setFramebuffer
          (if ly < 144 then Framebuffer.setLine fb ly (lineBytes s ly) else fb) := by
  unfold crossLine
  rw [newScanlineEvent_eq]
  unfold dotsCrossed
  rfl

/-- Crossing lines changes the LCD timing and the framebuffer only: the closed form of R443's loop. -/
theorem crossLines_subtract (hw : s.cfg.lineWrap = .subtract) :
    ∀ (n : Nat) (sc ly : Nat) (fb : Framebuffer), sc / 456 = n → ly < 154 →
      crossLines n ((s.setLcd ⟨sc, ly⟩).setFramebuffer fb)
        = (s.setLcd ⟨sc % 456, (ly + n) % 154⟩).setFramebuffer (renderedFrom s fb ly n) := by
  intro n
  induction n with
  | zero =>
    intro sc ly fb hn hl
    rw [Nat.add_zero, Nat.mod_eq_of_lt hl, Nat.mod_eq_of_lt (by omega : sc < 456)]; rfl
  | succ n ih =>
    intro sc ly fb hn hl
    rw [crossLines_succ, if_pos (by show 456 ≤ sc; omega), crossLine_eq, hw]
    show crossLines n ((s.setLcd ⟨sc - 456, _⟩).setFramebuffer _) = _
    rw [ih _ _ _ (by omega) (Nat.mod_lt _ (by decide)), renderedFrom_succ s fb ly n hl,
      show (sc - 456) % 456 = sc % 456 by omega, Nat.mod_add_mod, show ly + 1 + n = ly + (n + 1) by omega]

theorem crossLines_zero (hw : s.cfg.lineWrap = .zero) (n : Nat) (sc ly : Nat) (fb : Framebuffer) (hn : sc / 456 = n)
    (hl : ly < 154) :
    crossLines n ((s.setLcd ⟨sc, ly⟩).setFramebuffer fb)
      = (s.setLcd ⟨if sc < 456 then sc else 0, (ly + min 1 n) % 154⟩).setFramebuffer (renderedFrom s fb ly (min 1 n)) := by
  have h0 : ∀ (n : Nat) (t : State), t.lcd.scanlineCycles < 456 → crossLines n t = t := by
    intro n t ht
    cases n with
    | zero => rfl
    | succ n => show (if _ then _ else _) = _; rw [if_neg (by omega)]
  cases n with
  | zero =>
    rw [if_pos (by omega), Nat.min_zero, Nat.add_zero, Nat.mod_eq_of_lt hl]; rfl
  | succ n =>
    rw [crossLines_succ, if_pos (by show 456 ≤ sc; omega), crossLine_eq, hw, h0 n _ (show 0 < 456 by decide),
      if_neg (by omega : ¬ sc < 456), show min 1 (n + 1) = 0 + 1 by omega, renderedFrom_succ s fb ly 0 hl]
    rfl

/-- The closed form of the crossing of an advance of `c` dots, in the terms of the statements. -/
theorem crossLines_eq (c : Nat) (h : s.lcd.ok) :
    crossLines ((s.lcd.scanlineCycles + c) / 456) (s.setLcd { s.lcd with scanlineCycles := s.lcd.scanlineCycles + c })
      = (s.setLcd ⟨dotsAfter s c, (s.lcd.ly + linesCrossed s c) % 154⟩).setFramebuffer
          (renderedFrom s s.framebuffer s.lcd.ly (linesCrossed s c)) := by
  cases hw : s.cfg.lineWrap with
  | subtract =>
    have := crossLines_subtract s hw _ (s.lcd.scanlineCycles + c) s.lcd.ly s.framebuffer rfl h.2
    unfold dotsAfter linesCrossed; rw [hw]; exact this
  | zero =>
    have := crossLines_zero s hw _ (s.lcd.scanlineCycles + c) s.lcd.ly s.framebuffer rfl h.2
    unfold dotsAfter linesCrossed; rw [hw]; exact this

theorem dotsAfter_lt (c : Nat) : dotsAfter s c < 456 := by
  unfold dotsAfter
  split
  · exact Nat.mod_lt _ (by decide)
  · split
    · assumption
    · decide

/-! ### The report -/

theorem requestIf_read (k : Nat) (b : Bool) (x : Word) :
    directRead (requestIf s k b) x
      = if x = s.cfg.io.ifReg then directRead s s.cfg.io.ifReg ||| (if b then 1#8 <<< k else 0#8) else directRead s x := by
  unfold requestIf ifSet
  cases b
  · simp; rintro rfl; rfl
  · simp only [if_true, directRead_directWrite]

theorem requestIf_frame (k : Nat) (b : Bool) : s.setMem (requestIf s k b).mem = requestIf s k b := by
  unfold requestIf; cases b <;> rfl

theorem wf_requestIf (k : Nat) (b : Bool) (h : Memory.wf s.mem) : Memory.wf (requestIf s k b).mem := by
  unfold requestIf; cases b
  · exact h
  · exact wf_directWrite s _ _ h

theorem ppuReport_frame (b : Bool) : s.setMem (ppuReport s b).mem = ppuReport s b := by
  unfold ppuReport; dsimp only
  show s.setMem (requestIf (requestIf (directWrite s _ _) 0 _) 1 _ |> fun t => (directWrite t _ _).mem) = _
  rw [← requestIf_frame (requestIf _ _ _), ← requestIf_frame (directWrite _ _ _)]; rfl

theorem requestIf_lcd (k : Nat) (b : Bool) : (requestIf s k b).lcd = s.lcd := by rw [← requestIf_frame]; rfl
theorem requestIf_cfg (k : Nat) (b : Bool) : (requestIf s k b).cfg = s.cfg := by rw [← requestIf_frame]; rfl

/-- What the report leaves in each byte: STAT, IF and LY by R445 to R449, every other byte as before. -/
theorem ppuReport_read (hio : IoDistinct s.cfg.io) (b : Bool) (x : Word) :
    directRead (ppuReport s b) x
      = if x = s.cfg.io.ly then BitVec.ofNat 8 s.lcd.ly
        else if x = s.cfg.io.ifReg then
          directRead s s.cfg.io.ifReg ||| (if requestAllowed s.cfg.ppuIrqMode b && s.lcd.ly == 144 then 1#8 else 0#8)
            ||| (if requestAllowed s.cfg.ppuIrqMode b && lyMatches s then 2#8 else 0#8)
        else if x = s.cfg.io.stat then
          statByte (directRead s s.cfg.io.stat) (ppuMode s.lcd.ly s.lcd.scanlineCycles) (lyMatches s)
        else directRead s x := by
  have e : ∀ (v : Byte) (b' : Bool), lyMatches (requestIf (directWrite s s.cfg.io.stat v) 0 b') = lyMatches s := by
    intro v b'
    unfold lyMatches
    rw [requestIf_lcd, requestIf_cfg, directWrite_cfg, requestIf_read, directWrite_cfg, if_neg hio.lyc_if,
      directRead_directWrite, if_neg hio.lyc_stat]
    rfl
  unfold ppuReport
  dsimp only
  rw [e, requestIf_lcd, requestIf_lcd]
  simp only [directRead_directWrite, requestIf_read, requestIf_cfg, directWrite_cfg, directWrite_lcd]
  by_cases h1 : x = s.cfg.io.ly
  · simp [h1]
  · by_cases h2 : x = s.cfg.io.ifReg
    · simp [h2, hio.ly_if.symm, hio.if_stat]
    · simp [h1, h2]

/-- The report changes the bytes STAT, IF and LY only. -/
theorem ppuReport_read_other (b : Bool) {x : Word} (h1 : x ≠ s.cfg.io.stat) (h2 : x ≠ s.cfg.io.ly) (h3 : x ≠ s.cfg.io.ifReg) :
    directRead (ppuReport s b) x = directRead s x := by
  unfold ppuReport
  dsimp only
  simp only [directRead_directWrite, requestIf_read, requestIf_cfg, directWrite_cfg, if_neg h1, if_neg h2, if_neg h3]

/-- The report leaves the PPU's `ly` in the byte LY (R449). -/
theorem ppuReport_read_ly (b : Bool) : directRead (ppuReport s b) s.cfg.io.ly = BitVec.ofNat 8 s.lcd.ly := by
  unfold ppuReport
  dsimp only
  simp only [requestIf_lcd, directWrite_lcd, directRead_directWrite_same]

theorem wf_ppuReport (b : Bool) (h : Memory.wf s.mem) : Memory.wf (ppuReport s b).mem :=
  wf_directWrite _ _ _ (wf_requestIf _ _ _ (wf_requestIf _ _ _ (wf_directWrite s _ _ h)))

/-! ### The advance -/

/-- `ppu_advance(c)` with the LCD on: the crossing in closed form, and the report (R440, R443 to R449). -/
theorem ppuAdvance_on (c : Nat) (h : s.lcd.ok) (hon : (directRead s s.cfg.io.lcdc).getLsbD 7 = true) :
    ppuAdvance s c
      = ppuReport ((s.setLcd ⟨dotsAfter s c, (s.lcd.ly + linesCrossed s c) % 154⟩).setFramebuffer
          (renderedFrom s s.framebuffer s.lcd.ly (linesCrossed s c))) (decide (456 ≤ s.lcd.scanlineCycles + c)) := by
  unfold ppuAdvance
  rw [if_pos hon]
  dsimp only
  rw [crossLines_eq s c h]

/-- What an advance with the LCD on leaves in each byte: STAT, IF and LY, every other byte as before. -/
theorem ppuAdvance_on_read (hio : IoDistinct s.cfg.io) (c : Nat) (h : s.lcd.ok)
    (hon : (directRead s s.cfg.io.lcdc).getLsbD 7 = true) (x : Word) :
    let ly := (s.lcd.ly + linesCrossed s c) % 154
    let allowed := requestAllowed s.cfg.ppuIrqMode (decide (456 ≤ s.lcd.scanlineCycles + c))
    let same := ly == (directRead s s.cfg.io.lyc).toNat
    directRead (ppuAdvance s c) x
      = if x = s.cfg.io.ly then BitVec.ofNat 8 ly
        else if x = s.cfg.io.ifReg then
          directRead s s.cfg.io.ifReg ||| (if allowed && ly == 144 then 1#8 else 0#8) ||| (if allowed && same then 2#8 else 0#8)
        else if x = s.cfg.io.stat then statByte (directRead s s.cfg.io.stat) (ppuMode ly (dotsAfter s c)) same
        else directRead s x := by
  rw [ppuAdvance_on s c h hon]
  exact ppuReport_read ((s.setLcd ⟨dotsAfter s c, (s.lcd.ly + linesCrossed s c) % 154⟩).setFramebuffer
    (renderedFrom s s.framebuffer s.lcd.ly (linesCrossed s c))) hio _ x

/-- `ppu_advance(c)` with the LCD off (R442). -/
theorem ppuAdvance_off (c : Nat) (hoff : (directRead s s.cfg.io.lcdc).getLsbD 7 = false) :
    ppuAdvance s c = directWrite (s.setLcd { s.lcd with ly := 0 }) s.cfg.io.ly 0 := by
  unfold ppuAdvance
  rw [hoff]; rfl

theorem linesCrossed_pos (c : Nat) : decide (456 ≤ s.lcd.scanlineCycles + c) = decide (0 < linesCrossed s c) := by
  have : (456 ≤ s.lcd.scanlineCycles + c) ↔ 0 < linesCrossed s c := by
    unfold linesCrossed; split <;> omega
  simp [this]

end Sys2Proof.Machine
end

