-- ==== Sys2Proof/Laws/Render.lean ====
section
/-!
SUPPORT. The renderer: the framebuffer's lines, the pixels of a line, and the sprites drawn over it.
-/

namespace Sys2Proof.Machine

/-! ### Lines of the framebuffer -/

theorem find_setLine (fb : Framebuffer) (y z : Nat) (v : List Byte) :
    (Framebuffer.setLine fb y v).find? (fun e => e.1 == z)
      = if z = y then some (y, v) else fb.find? (fun e => e.1 == z) := by
  induction fb with
  | nil =>
    show List.find? _ [(y, v)] = _
    by_cases h : z = y
    · simp [h]
    · simp [h, Ne.symm h]
  | cons e fb ih =>
    obtain ⟨w, u⟩ := e
    unfold Framebuffer.setLine
    by_cases hz : z = y
    · subst hz
      split
      · simp
      · split
        · simp
        · next h1 h2 => rw [List.find?_cons_of_neg (by simp; omega), ih]; simp
    · rw [if_neg hz] at *
      split
      · rw [List.find?_cons_of_neg (by simp; omega)]
      · split
        · next h1 h2 => rw [List.find?_cons_of_neg (by simp; omega), List.find?_cons_of_neg (by simp; omega)]
        · by_cases hw : w = z
          · simp [hw]
          · rw [List.find?_cons_of_neg (by simp; omega), List.find?_cons_of_neg (by simp; omega), ih]

theorem framebufferByte_setLine_other (fb : Framebuffer) (y i : Nat) (v : List Byte) (h : i / 480 ≠ y) :
    framebufferByte (Framebuffer.setLine fb y v) i = framebufferByte fb i := by
  unfold framebufferByte
  rw [find_setLine, if_neg h]

theorem framebufferByte_setLine_same (fb : Framebuffer) (y i : Nat) (v : List Byte) (h : i / 480 = y) :
    framebufferByte (Framebuffer.setLine fb y v) i = v.getD (i % 480) 0 := by
  unfold framebufferByte
  rw [find_setLine, if_pos h]

/-- Each element of a line's ids gives three equal bytes (R456). -/
theorem getElem?_triples (g : Nat → Byte) (l : List Nat) (x k : Nat) (hk : k < 3) :
    (l.flatMap (fun id => [g id, g id, g id]))[3 * x + k]? = l[x]?.map g := by
  induction l generalizing x with
  | nil => simp
  | cons a l ih =>
    rw [List.flatMap_cons]
    cases x with
    | zero =>
      rcases (by omega : k = 0 ∨ k = 1 ∨ k = 2) with rfl | rfl | rfl <;> rfl
    | succ x =>
      rw [show 3 * (x + 1) + k = 3 + (3 * x + k) by omega, List.getElem?_append_right (by simp)]
      simp only [List.length_cons, List.length_nil, Nat.zero_add, List.getElem?_cons_succ]
      rw [show 3 + (3 * x + k) - (0 + 1 + 1 + 1) = 3 * x + k by omega]
      exact ih x

/-! ### Sprites over a line -/

/-- The colour id of a sprite's column, mirrored when flipped (R454). -/
def columnId (f : Bool) (lo hi : Byte) (col : Nat) : Nat := colorId lo hi (if f then col else 7 - col)

theorem drawSpritePixel_eq (f : Bool) (p : Sprite) (lo hi : Byte) (line : List Nat) (col : Nat) :
    drawSpritePixel f p lo hi line col
      = if p.x.toNat + col < 8 ∨ 168 ≤ p.x.toNat + col ∨ columnId f lo hi col = 0 then line
        else line.set (p.x.toNat + col - 8) (columnId f lo hi col) := rfl

/-- The colour id a sprite whose tile row is `lo`, `hi` gives pixel x, 0 where it has none (R454). -/
def spritePixelId (f : Bool) (p : Sprite) (lo hi : Byte) (x : Nat) : Nat :=
  if x + 8 < p.x.toNat ∨ p.x.toNat + 8 ≤ x + 8 then 0 else columnId f lo hi (x + 8 - p.x.toNat)

theorem drawSpritePixels_get (f : Bool) (p : Sprite) (lo hi : Byte) (line : List Nat) (x n : Nat) (hx : x < 160)
    (hl : line.length = 160) :
    ((List.range n).foldl (drawSpritePixel f p lo hi) line).length = 160
    ∧ ((List.range n).foldl (drawSpritePixel f p lo hi) line)[x]?
      = some (if p.x.toNat ≤ x + 8 ∧ x + 8 < p.x.toNat + n ∧ columnId f lo hi (x + 8 - p.x.toNat) ≠ 0
          then columnId f lo hi (x + 8 - p.x.toNat) else line.getD x 0) := by
  induction n with
  | zero =>
    refine ⟨hl, ?_⟩
    rw [if_neg (by omega)]
    simp [hl, hx]
  | succ n ih =>
    obtain ⟨ih1, ih2⟩ := ih
    rw [List.range_succ, List.foldl_append, List.foldl_cons, List.foldl_nil]
    generalize (List.range n).foldl (drawSpritePixel f p lo hi) line = m at *
    rw [drawSpritePixel_eq]
    refine ⟨by split <;> simp [ih1], ?_⟩
    by_cases hc : p.x.toNat + n = x + 8
    · have hn : x + 8 - p.x.toNat = n := by omega
      rw [if_neg (by omega)] at ih2
      rw [hn]
      by_cases h0 : columnId f lo hi n = 0
      · rw [if_pos (.inr (.inr h0)), ih2, if_neg (fun h => h.2.2 h0)]
      · rw [if_neg (by omega), if_pos ⟨by omega, by omega, h0⟩, show p.x.toNat + n - 8 = x by omega]
        simp [ih1, hx]
    · have e : (x + 8 < p.x.toNat + (n + 1)) = (x + 8 < p.x.toNat + n) := by apply propext; omega
      simp only [e]
      rw [← ih2]
      by_cases h : p.x.toNat + n < 8 ∨ 168 ≤ p.x.toNat + n ∨ columnId f lo hi n = 0
      · rw [if_pos h]
      · rw [if_neg h, List.getElem?_set_ne (by omega)]

/-- One sprite over a line: a pixel it gives an opaque id takes that id, every other pixel is as before (R454). -/
theorem drawSprite_get (s : State) (lcdc : Byte) (y : Nat) (line : List Nat) (p : Sprite) (x : Nat) (hx : x < 160)
    (hl : line.length = 160) :
    (drawSprite s lcdc y line p).length = 160
    ∧ (drawSprite s lcdc y line p).getD x 0
      = if spritePixelId (s.cfg.spriteFlips && p.attr.getLsbD 5) p (spriteRow s lcdc y p).1 (spriteRow s lcdc y p).2 x = 0
        then line.getD x 0
        else spritePixelId (s.cfg.spriteFlips && p.attr.getLsbD 5) p (spriteRow s lcdc y p).1 (spriteRow s lcdc y p).2 x := by
  obtain ⟨h1, h2⟩ := drawSpritePixels_get (s.cfg.spriteFlips && p.attr.getLsbD 5) p (spriteRow s lcdc y p).1
    (spriteRow s lcdc y p).2 line x 8 hx hl
  refine ⟨h1, ?_⟩
  unfold drawSprite
  dsimp only
  rw [List.getD_eq_getElem?_getD, h2, Option.getD_some]
  unfold spritePixelId
  generalize columnId (s.cfg.spriteFlips && p.attr.getLsbD 5) (spriteRow s lcdc y p).1 (spriteRow s lcdc y p).2
    (x + 8 - p.x.toNat) = id
  by_cases hr : x + 8 < p.x.toNat ∨ p.x.toNat + 8 ≤ x + 8
  · rw [if_pos hr, if_pos rfl, if_neg (by omega)]
  · rw [if_neg hr]
    by_cases h : id = 0
    · rw [if_pos h, if_neg (fun k => k.2.2 h)]
    · rw [if_neg h, if_pos ⟨by omega, by omega, h⟩]

/-- The sprites over a line: the last opaque one wins each pixel (R454, R455). -/
theorem drawSprites_get (s : State) (lcdc : Byte) (y x : Nat) (hx : x < 160) (ps : List Sprite) :
    ∀ line : List Nat, line.length = 160 →
      (ps.foldl (drawSprite s lcdc y) line).length = 160
      ∧ (ps.foldl (drawSprite s lcdc y) line).getD x 0
        = ((ps.map (fun p => spritePixelId (s.cfg.spriteFlips && p.attr.getLsbD 5) p (spriteRow s lcdc y p).1
            (spriteRow s lcdc y p).2 x)).filter (fun id => id != 0)).getLastD (line.getD x 0) := by
  induction ps with
  | nil => intro line hl; exact ⟨hl, rfl⟩
  | cons p ps ih =>
    intro line hl
    obtain ⟨h1, h2⟩ := drawSprite_get s lcdc y line p x hx hl
    obtain ⟨h3, h4⟩ := ih _ h1
    rw [List.foldl_cons]
    refine ⟨h3, ?_⟩
    rw [h4, h2, List.map_cons]
    generalize spritePixelId (s.cfg.spriteFlips && p.attr.getLsbD 5) p (spriteRow s lcdc y p).1 (spriteRow s lcdc y p).2 x = id
    by_cases h : id = 0
    · simp [h]
    · rw [if_neg h, List.filter_cons_of_pos (by simpa using h), List.getLastD_cons]

/-- The first `m` elements that satisfy `p` are those with fewer than `m` before them. -/
theorem take_filter_range (p : Nat → Bool) (m n : Nat) :
    ((List.range n).filter p).take m
      = (List.range n).filter (fun i => p i && decide (((List.range i).filter p).length < m)) := by
  induction n with
  | zero => simp
  | succ n ih =>
    rw [List.range_succ, List.filter_append, List.filter_append, List.take_append, ih]
    congr 1
    by_cases h : p n = true
    · by_cases hm : ((List.range n).filter p).length < m
      · simp only [List.filter_cons, List.filter_nil, h, hm, if_true, decide_true, Bool.and_true]
        rw [List.take_of_length_le (by simp; omega)]
      · simp only [List.filter_cons, List.filter_nil, h, hm, if_true, decide_false, Bool.and_false]
        simp; omega
    · simp [h]

end Sys2Proof.Machine
end

