-- ==== Sys2Proof/Laws/Machine.lean ====
section
/-!
SUPPORT. The CPU step, the iteration, the batch, the reset and the save-state ring: what each can do, once.
-/

namespace Sys2Proof.Machine

variable (s : State)

/-! ### The PPU's frame -/

theorem crossLine_frame : (s.setLcd (crossLine s).lcd).setFramebuffer (crossLine s).framebuffer = crossLine s := by
  unfold crossLine
  rw [newScanlineEvent_eq]; rfl

theorem crossLines_frame (n : Nat) :
    (s.setLcd (crossLines n s).lcd).setFramebuffer (crossLines n s).framebuffer = crossLines n s := by
  induction n generalizing s with
  | zero => rfl
  | succ n ih =>
    rw [crossLines_succ]
    split
    · have h := ih (crossLine s)
      rw [← h]
      conv_lhs => rw [← crossLine_frame s]
      conv_rhs => rw [← crossLine_frame s]
      rfl
    · rfl

/-- The PPU's advance changes the memory, the LCD timing and the framebuffer only. -/
theorem ppuAdvance_frame (c : Nat) :
    ((s.setMem (ppuAdvance s c).mem).setLcd (ppuAdvance s c).lcd).setFramebuffer (ppuAdvance s c).framebuffer
      = ppuAdvance s c := by
  unfold ppuAdvance
  dsimp only
  split
  · rw [← ppuReport_frame, ← crossLines_frame]; rfl
  · rfl

/-- The PPU's advance changes the bytes STAT, LY and IF only. -/
theorem ppuAdvance_read_other (c : Nat) {x : Word} (h1 : x ≠ s.cfg.io.stat) (h2 : x ≠ s.cfg.io.ly) (h3 : x ≠ s.cfg.io.ifReg) :
    directRead (ppuAdvance s c) x = directRead s x := by
  unfold ppuAdvance
  dsimp only
  split
  · rw [← crossLines_frame]; exact ppuReport_read_other (((s.setLcd _).setLcd _).setFramebuffer _) _ h1 h2 h3
  · rw [directRead_directWrite, if_neg h2]; rfl

theorem wf_ppuAdvance (c : Nat) (h : Memory.wf s.mem) : Memory.wf (ppuAdvance s c).mem := by
  unfold ppuAdvance
  dsimp only
  split
  · apply wf_ppuReport; rw [← crossLines_frame]; exact h
  · exact wf_directWrite _ _ _ h

/-- The LY byte is the PPU's `ly` after any advance (R449, R442). -/
theorem ppuAdvance_mirror (c : Nat) : lyMirrored s.cfg.io (ppuAdvance s c).mem (ppuAdvance s c).lcd := by
  show directRead (ppuAdvance s c) s.cfg.io.ly = _
  unfold ppuAdvance
  dsimp only
  split
  · rw [← crossLines_frame]
    exact (ppuReport_read_ly (((s.setLcd _).setLcd _).setFramebuffer _) _).trans (by rw [← ppuReport_frame]; rfl)
  · rw [directRead_directWrite_same]; rfl

theorem lcdOk_ppuAdvance (c : Nat) (h : s.lcd.ok) : (ppuAdvance s c).lcd.ok := by
  cases hon : (directRead s s.cfg.io.lcdc).getLsbD 7 with
  | true =>
    rw [ppuAdvance_on s c h hon, ← ppuReport_frame]
    exact ⟨dotsAfter_lt s c, Nat.mod_lt _ (by decide)⟩
  | false =>
    rw [ppuAdvance_off s c hon]
    exact ⟨h.1, by show 0 < 154; decide⟩

theorem mem_setLine {fb : Framebuffer} {y : Nat} {v : List Byte} {e : Nat × List Byte}
    (h : e ∈ Framebuffer.setLine fb y v) : e = (y, v) ∨ e ∈ fb := by
  induction fb with
  | nil => simpa [Framebuffer.setLine] using h
  | cons a fb ih =>
    obtain ⟨z, w⟩ := a
    unfold Framebuffer.setLine at h
    split at h
    · simpa using h
    · split at h
      · rcases List.mem_cons.1 h with h | h
        · exact .inl h
        · exact .inr (List.mem_cons_of_mem _ h)
      · rcases List.mem_cons.1 h with h | h
        · exact .inr (h ▸ List.mem_cons_self ..)
        · rcases ih h with h | h
          · exact .inl h
          · exact .inr (List.mem_cons_of_mem _ h)

theorem framebufferOk_setLine {fb : Framebuffer} {y : Nat} {v : List Byte} (h : fb.ok) (hy : y < 144) (hv : v.length = 480) :
    (Framebuffer.setLine fb y v).ok := by
  obtain ⟨h1, h2⟩ := h
  refine ⟨?_, fun e he => ?_⟩
  · clear h2
    induction fb with
    | nil => exact List.pairwise_singleton _ _
    | cons a fb ih =>
      obtain ⟨z, w⟩ := a
      obtain ⟨ha, hf⟩ := List.pairwise_cons.1 h1
      unfold Framebuffer.setLine
      split
      · next hlt =>
        refine List.pairwise_cons.2 ⟨fun e he => ?_, h1⟩
        rcases List.mem_cons.1 he with rfl | he
        · exact hlt
        · exact Nat.lt_trans hlt (ha e he)
      · split
        · next heq => subst heq; exact List.pairwise_cons.2 ⟨ha, hf⟩
        · refine List.pairwise_cons.2 ⟨fun e he => ?_, ih hf⟩
          rcases mem_setLine he with rfl | he
          · show z < y; omega
          · exact ha e he
  · rcases mem_setLine he with rfl | he
    · exact ⟨hy, hv⟩
    · exact h2 e he

theorem lineBytes_length (y : Nat) : (lineBytes s y).length = 480 := by
  have h : (lineIds s y).length = 160 := by
    unfold lineIds
    exact (drawSprites_get s _ y 0 (by decide) _ _ (by simp [lcdWidth])).1
  unfold lineBytes
  simp [List.length_flatMap, h]

theorem framebufferOk_renderedFrom (fb : Framebuffer) (ly n : Nat) (h : fb.ok) : (renderedFrom s fb ly n).ok := by
  induction n with
  | zero => exact h
  | succ n ih =>
    unfold renderedFrom at *
    rw [List.range_succ, List.foldl_append, List.foldl_cons, List.foldl_nil]
    dsimp only
    split
    · next hy => exact framebufferOk_setLine ih hy (lineBytes_length s _)
    · exact ih

theorem framebufferOk_ppuAdvance (c : Nat) (hl : s.lcd.ok) (h : s.framebuffer.ok) : (ppuAdvance s c).framebuffer.ok := by
  cases hon : (directRead s s.cfg.io.lcdc).getLsbD 7 with
  | true =>
    rw [ppuAdvance_on s c hl hon, ← ppuReport_frame]
    exact framebufferOk_renderedFrom s _ _ _ h
  | false =>
    rw [ppuAdvance_off s c hon]; exact h

/-! ### The CPU step -/

/-- What a CPU step that has a next state did: a dispatch, or one table entry (R161). -/
theorem cpuStep_cases {x : CpuStep} (h : cpuStep s = .next x) :
    (∃ k, selectedSource s = some k ∧ x = ⟨takeInterrupt (ifClear s k) k, 20, true⟩)
    ∨ (∃ t, selectedSource s = none ∧ exec (fetchInstr s) (advancePc s (fetchEntry s).length) = .next t
        ∧ x = ⟨raiseBreak (fetchIndex s) t, cycleCharge (fetchEntry s) (advancePc s (fetchEntry s).length) t,
          !t.cpu.prefixOp⟩) := by
  unfold cpuStep at h
  split at h
  · next k hk => cases h; exact .inl ⟨k, hk, rfl⟩
  · next hk =>
    unfold fetchExecute at h
    dsimp only at h
    split at h
    · next t ht => cases h; exact .inr ⟨t, hk, ht, rfl⟩
    · cases h
    · cases h

/-- What a CPU step keeps. -/
structure CpuTame (s t : State) : Prop where
  frame : OnlyCpuMemSerial s ((t.setBreakFlag s.breakFlag).setPc0 s.pc0)
  memory : Memory.wf s.mem → Memory.wf t.mem
  flags : s.cpu.flagsOk → t.cpu.flagsOk
  rom : s.cfg.ioOk = true → ∀ x : Word, x.toNat ≤ 0x7FFF → directRead t x = directRead s x

theorem Tame.cpuTame {s t : State} (h : Tame s t) : CpuTame s t := by
  refine ⟨?_, h.memory, h.flags, fun _ => h.rom⟩
  have := h.frame; unfold OnlyCpuMemSerial at *; rw [← this]; rfl

theorem CpuTame.trans {s t u : State} (h : CpuTame s t) (k : CpuTame t u) : CpuTame s u := by
  have hf := h.frame
  have kf := k.frame
  have hc : t.cfg = s.cfg := hf.cfg
  refine ⟨?_, k.memory ∘ h.memory, k.flags ∘ h.flags, fun hio x hx => (k.rom (hc ▸ hio) x hx).trans (h.rom hio x hx)⟩
  unfold OnlyCpuMemSerial at *
  have e : t = ((((s.setCpu t.cpu).setMem t.mem).setSerialOut t.serialOut).setBreakFlag t.breakFlag).setPc0 t.pc0 :=
    (congrArg (fun u => (u.setBreakFlag t.breakFlag).setPc0 t.pc0) hf).symm
  have e' : u = ((((t.setCpu u.cpu).setMem u.mem).setSerialOut u.serialOut).setBreakFlag u.breakFlag).setPc0 u.pc0 :=
    (congrArg (fun x => (x.setBreakFlag u.breakFlag).setPc0 u.pc0) kf).symm
  rw [e', e]; rfl

theorem cpuTame_raiseBreak (index : Nat) : CpuTame s (raiseBreak index s) := by
  unfold raiseBreak
  split
  · exact ⟨rfl, id, id, fun _ _ _ => rfl⟩
  · exact (Tame.refl s).cpuTame

theorem cpuTame_ifClear (k : Nat) : CpuTame s (ifClear s k) :=
  ⟨rfl, wf_directWrite s _ _, id, fun hio _ hx =>
    directRead_directWrite_other s _ (ioOk_ne_rom hio (by simp [IoAddr.addresses]) hx)⟩

theorem cpuTame_advancePc (n : Nat) : CpuTame s (advancePc s n) := ⟨rfl, id, id, fun _ _ _ => rfl⟩

theorem cpuStep_tame {x : CpuStep} (h : cpuStep s = .next x) : CpuTame s x.state := by
  rcases cpuStep_cases s h with ⟨k, -, rfl⟩ | ⟨t, -, ht, rfl⟩
  · exact (cpuTame_ifClear s k).trans (tame_takeInterrupt _ k).cpuTame
  · exact ((cpuTame_advancePc s _).trans (exec_tame ht).cpuTame).trans (cpuTame_raiseBreak t _)

/-- What fetching and executing an entry gives: stuck where its effect is `Undefined` (R346), else a next state. -/
theorem fetchExecute_result :
    (isUndefined (fetchInstr s) = true ∧ fetchExecute s = .fault (.undefinedOpcode (directRead s s.cpu.pc) s.cpu.pc))
    ∨ (isUndefined (fetchInstr s) = false ∧ ∃ x, fetchExecute s = .next x) := by
  unfold fetchExecute
  dsimp only
  cases hu : isUndefined (fetchInstr s) with
  | true => exact .inl ⟨rfl, by rw [exec_undefined _ _ hu]; rfl⟩
  | false =>
    refine .inr ⟨rfl, ?_⟩
    have h := exec_result (fetchInstr s) (advancePc s (fetchEntry s).length) hu
    revert h
    generalize exec (fetchInstr s) (advancePc s (fetchEntry s).length) = y
    rintro ⟨t, -⟩
    exact ⟨_, rfl⟩

theorem cpuStep_not_refused (r : Refusal) : cpuStep s ≠ .refused r := by
  unfold cpuStep
  split
  · simp
  · rcases fetchExecute_result s with ⟨-, h⟩ | ⟨-, x, h⟩ <;> rw [h] <;> simp

/-- A CPU step is stuck only where it fetches an undefined entry (R346). -/
theorem cpuStep_fault {r : Fault} (h : cpuStep s = .fault r) :
    selectedSource s = none ∧ isUndefined (fetchInstr s) = true ∧ r = .undefinedOpcode (directRead s s.cpu.pc) s.cpu.pc := by
  unfold cpuStep at h
  split at h
  · cases h
  · next hk =>
    rcases fetchExecute_result s with ⟨hu, e⟩ | ⟨-, x, e⟩
    · rw [e] at h; cases h; exact ⟨hk, hu, rfl⟩
    · rw [e] at h; cases h

/-! ### The iteration -/

theorem iteration_cases {t : State} (h : iteration s = .next t) :
    ∃ x, cpuStep (beginIteration s) = .next x ∧ t = countSlot (endIteration x.state x.cycles) x.usesSlot := by
  unfold iteration at h
  split at h
  · next x hx => cases h; exact ⟨x, hx, rfl⟩
  · cases h
  · cases h

/-- What no part of an iteration changes. -/
structure OnlyIteration (s t : State) : Prop where
  joypad : t.joypad = s.joypad
  cart : t.cart = s.cart
  ring : t.ring = s.ring
  breakpoint : t.breakpoint = s.breakpoint
  cfg : t.cfg = s.cfg
  inBatch : t.inBatch = s.inBatch
  hostScript : t.hostScript = s.hostScript

theorem OnlyIteration.trans {s t u : State} (h : OnlyIteration s t) (k : OnlyIteration t u) : OnlyIteration s u :=
  ⟨k.joypad.trans h.joypad, k.cart.trans h.cart, k.ring.trans h.ring, k.breakpoint.trans h.breakpoint, k.cfg.trans h.cfg,
   k.inBatch.trans h.inBatch, k.hostScript.trans h.hostScript⟩

/-- What a part of an iteration keeps. -/
structure Keeps (s t : State) : Prop where
  frame : OnlyIteration s t
  memory : Memory.wf s.mem → Memory.wf t.mem
  flags : s.cpu.flagsOk → t.cpu.flagsOk
  timer : s.timer.ok → t.timer.ok
  lcd : s.lcd.ok → t.lcd.ok
  framebuffer : s.lcd.ok → s.framebuffer.ok → t.framebuffer.ok
  rom : s.cfg.ioOk = true → ∀ x : Word, x.toNat ≤ 0x7FFF → directRead t x = directRead s x

theorem Keeps.trans {s t u : State} (h : Keeps s t) (k : Keeps t u) : Keeps s u :=
  ⟨h.frame.trans k.frame, k.memory ∘ h.memory, k.flags ∘ h.flags, k.timer ∘ h.timer, k.lcd ∘ h.lcd,
   fun hl hf => k.framebuffer (h.lcd hl) (h.framebuffer hl hf), fun hio x hx => (k.rom (h.frame.cfg ▸ hio) x hx).trans (h.rom hio x hx)⟩

theorem keeps_beginIteration : Keeps s (beginIteration s) := by
  have hr : s.cfg.ioOk = true → ∀ x : Word, x.toNat ≤ 0x7FFF → directRead (beginIteration s) x = directRead s x := by
    intro hio x hx
    rw [beginIteration_read, joypadSample_read, if_neg (ioOk_ne_rom hio (by simp [IoAddr.addresses]) hx)]
  refine ⟨?_, wf_beginIteration s, ?_, ?_, ?_, ?_, hr⟩
  · unfold beginIteration emitTrace; split <;> exact ⟨rfl, rfl, rfl, rfl, rfl, rfl, rfl⟩
  · rw [beginIteration_cpu]; exact id
  · unfold beginIteration emitTrace; split <;> exact id
  · unfold beginIteration emitTrace; split <;> exact id
  · unfold beginIteration emitTrace; split <;> exact fun _ h => h

theorem CpuTame.keeps {s t : State} (h : CpuTame s t) : Keeps s t := by
  have hf := h.frame
  unfold OnlyCpuMemSerial at hf
  have e : t = ((((s.setCpu t.cpu).setMem t.mem).setSerialOut t.serialOut).setBreakFlag t.breakFlag).setPc0 t.pc0 :=
    (congrArg (fun u => (u.setBreakFlag t.breakFlag).setPc0 t.pc0) hf).symm
  refine ⟨?_, h.memory, h.flags, ?_, ?_, ?_, h.rom⟩
  · rw [e]; exact ⟨rfl, rfl, rfl, rfl, rfl, rfl, rfl⟩
  · rw [e]; exact id
  · rw [e]; exact id
  · rw [e]; exact fun _ h => h

theorem keeps_timerAdvance (c : Nat) : Keeps s (timerAdvance s c) := by
  have e := timerAdvance_frame s c
  refine ⟨?_, wf_timerAdvance s c, ?_, timerOk_timerAdvance s c, ?_, ?_, fun hio x hx => ?_⟩
  · rw [← e]; exact ⟨rfl, rfl, rfl, rfl, rfl, rfl, rfl⟩
  · rw [← e]; exact id
  · rw [← e]; exact id
  · rw [← e]; exact fun _ h => h
  · refine timerAdvance_read_other s c ?_ ?_ ?_ <;> exact ioOk_ne_rom hio (by simp [IoAddr.addresses]) hx

theorem keeps_ppuAdvance (c : Nat) : Keeps s (ppuAdvance s c) := by
  have e := ppuAdvance_frame s c
  refine ⟨?_, wf_ppuAdvance s c, ?_, ?_, lcdOk_ppuAdvance s c, framebufferOk_ppuAdvance s c, fun hio x hx => ?_⟩
  · rw [← e]; exact ⟨rfl, rfl, rfl, rfl, rfl, rfl, rfl⟩
  · rw [← e]; exact id
  · rw [← e]; exact id
  · refine ppuAdvance_read_other s c ?_ ?_ ?_ <;> exact ioOk_ne_rom hio (by simp [IoAddr.addresses]) hx

theorem keeps_breakpointCheck : Keeps s (breakpointCheck s) := by
  unfold breakpointCheck
  split <;> exact ⟨⟨rfl, rfl, rfl, rfl, rfl, rfl, rfl⟩, id, id, id, id, fun _ h => h, fun _ _ _ => rfl⟩

theorem keeps_countSlot (b : Bool) : Keeps s (countSlot s b) := by
  unfold countSlot
  split <;> exact ⟨⟨rfl, rfl, rfl, rfl, rfl, rfl, rfl⟩, id, id, id, id, fun _ h => h, fun _ _ _ => rfl⟩

theorem keeps_endIteration (c : Nat) : Keeps s (endIteration s c) :=
  ((keeps_timerAdvance s c).trans (keeps_ppuAdvance _ c)).trans (keeps_breakpointCheck _)

/-- What an iteration keeps. -/
theorem iteration_keeps {t : State} (h : iteration s = .next t) : Keeps s t := by
  obtain ⟨x, hx, rfl⟩ := iteration_cases s h
  exact (((keeps_beginIteration s).trans (cpuStep_tame _ hx).keeps).trans (keeps_endIteration _ _)).trans (keeps_countSlot _ _)

theorem endIteration_mirror (c : Nat) : lyMirrored s.cfg.io (endIteration s c).mem (endIteration s c).lcd := by
  have h := ppuAdvance_mirror (timerAdvance s c) c
  rw [(keeps_timerAdvance s c).frame.cfg] at h
  unfold endIteration breakpointCheck
  split <;> exact h

/-- After an iteration the LY byte is the PPU's `ly` (R449). -/
theorem iteration_mirror {t : State} (h : iteration s = .next t) : lyMirrored s.cfg.io t.mem t.lcd := by
  obtain ⟨x, hx, rfl⟩ := iteration_cases s h
  have hm := endIteration_mirror x.state x.cycles
  rw [((keeps_beginIteration s).trans (cpuStep_tame _ hx).keeps).frame.cfg] at hm
  unfold countSlot
  split <;> exact hm

theorem iteration_parts {t : State} (h : iteration s = .next t) (hp : PartsOk s.cfg.io s.cpu s.mem s.lcd s.timer s.framebuffer) :
    PartsOk s.cfg.io t.cpu t.mem t.lcd t.timer t.framebuffer :=
  have k := iteration_keeps s h
  ⟨k.memory hp.memoryOk, k.flags hp.flagsOk, k.lcd hp.lcdOk, k.timer hp.timerOk, k.framebuffer hp.lcdOk hp.framebufferOk,
   iteration_mirror s h⟩

/-! ### The ring -/

theorem ringOk_pushSaveState (h : s.ring.ok s.cfg.saveCapacity s.cfg.io) (hp : PartsOk s.cfg.io s.cpu s.mem s.lcd s.timer s.framebuffer) :
    (pushSaveState s).ring.ok s.cfg.saveCapacity s.cfg.io := by
  obtain ⟨h1, h2, h3, h4, h5, h6⟩ := h
  have hlt : s.ring.cursor % s.cfg.saveCapacity < s.ring.slots.length := by rw [h2]; exact Nat.mod_lt _ h1
  refine ⟨h1, by show (List.set _ _ _).length = _; rw [List.length_set, h2], Nat.min_le_right _ _, ?_, ?_, ?_⟩
  · show min (s.ring.count + 1) s.cfg.saveCapacity ≤ s.ring.cursor + 1
    omega
  · intro j hj
    have hj' : j < min (s.ring.count + 1) s.cfg.saveCapacity := hj
    show ((s.ring.slots.set (s.ring.cursor % s.cfg.saveCapacity) _).getD ((s.ring.cursor + 1 - 1 - j) % s.cfg.saveCapacity) none).isSome = true
    rw [List.getD_eq_getElem?_getD, List.getElem?_set]
    split
    · simp
    · next hne =>
      have hj0 : j ≠ 0 := by rintro rfl; exact hne (by rw [Nat.add_sub_cancel, Nat.sub_zero])
      have := h5 (j - 1) (by omega)
      rw [List.getD_eq_getElem?_getD, show s.ring.cursor - 1 - (j - 1) = s.ring.cursor + 1 - 1 - j by omega] at this
      exact this
  · intro x hx
    rcases List.mem_or_eq_of_mem_set hx with hx | hx
    · exact h6 x hx
    · cases hx; exact hp

/-- Popping a good ring restores a stored snapshot and keeps the ring good. -/
theorem popSaveState_ok (h : s.ring.ok s.cfg.saveCapacity s.cfg.io) (hp : PartsOk s.cfg.io s.cpu s.mem s.lcd s.timer s.framebuffer) :
    (popSaveState s).ring.ok s.cfg.saveCapacity s.cfg.io
    ∧ PartsOk s.cfg.io (popSaveState s).cpu (popSaveState s).mem (popSaveState s).lcd (popSaveState s).timer
        (popSaveState s).framebuffer := by
  unfold popSaveState
  split
  · exact ⟨h, hp⟩
  · next hc =>
    obtain ⟨h1, h2, h3, h4, h5, h6⟩ := h
    refine ⟨⟨h1, h2, ?_, ?_, ?_, h6⟩, ?_⟩
    · show s.ring.count - 1 ≤ _; omega
    · show s.ring.count - 1 ≤ s.ring.cursor - 1; omega
    · intro j hj
      have hj' : j < s.ring.count - 1 := hj
      have := h5 (j + 1) (by omega)
      rw [show s.ring.cursor - 1 - (j + 1) = s.ring.cursor - 1 - 1 - j by omega] at this
      exact this
    · have hv := h5 0 (by omega)
      rw [Nat.sub_zero] at hv
      obtain ⟨x, hx⟩ := Option.isSome_iff_exists.1 hv
      have hm : some x ∈ s.ring.slots := by
        rw [List.getD_eq_getElem?_getD] at hx
        cases hg : s.ring.slots[(s.ring.cursor - 1) % s.cfg.saveCapacity]? with
        | none => rw [hg] at hx; cases hx
        | some y => rw [hg] at hx; cases hx; exact List.mem_of_getElem? hg
      have e : slotContents s ((s.ring.cursor - 1) % s.cfg.saveCapacity) = x := by unfold slotContents; rw [hx]
      dsimp only
      rw [e]
      exact h6 x hm

/-! ### Reset and load -/

theorem writePostBoot_frame : s.setMem (writePostBoot s).mem = writePostBoot s := by
  unfold writePostBoot
  generalize s.cfg.postBootIo = l
  induction l generalizing s with
  | nil => rfl
  | cons e l ih => rw [List.foldl_cons, ← ih]; rfl

theorem wf_writePostBoot (h : Memory.wf s.mem) : Memory.wf (writePostBoot s).mem := by
  unfold writePostBoot
  generalize s.cfg.postBootIo = l
  induction l generalizing s with
  | nil => exact h
  | cons e l ih => rw [List.foldl_cons]; exact ih _ (wf_directWrite s _ _ h)

theorem writeBytes_frame (a : Word) (l : List Byte) : s.setMem (writeBytes s a l).mem = writeBytes s a l := by
  induction l generalizing s a with
  | nil => rfl
  | cons v l ih => unfold writeBytes; rw [← ih]; rfl

theorem wf_writeBytes (a : Word) (l : List Byte) (h : Memory.wf s.mem) : Memory.wf (writeBytes s a l).mem := by
  induction l generalizing s a with
  | nil => exact h
  | cons v l ih => exact ih _ _ (wf_directWrite s _ _ h)

/-- A list of direct writes leaves an address it does not name as it was. -/
theorem directRead_writes_other (l : List (Word × Byte)) (x : Word) (h : ∀ e ∈ l, e.1 ≠ x) :
    directRead (l.foldl (fun t e => directWrite t e.1 e.2) s) x = directRead s x := by
  induction l generalizing s with
  | nil => rfl
  | cons e l ih =>
    rw [List.foldl_cons, ih _ (fun e he => h e (List.mem_cons_of_mem _ he)), directRead_directWrite,
      if_neg (fun k => h e (List.mem_cons_self ..) k.symm)]

/-- A list of direct writes to distinct addresses leaves each address with its byte. -/
theorem directRead_writes_listed (l : List (Word × Byte)) (hn : (l.map Prod.fst).Nodup) (e : Word × Byte) (he : e ∈ l) :
    directRead (l.foldl (fun t e => directWrite t e.1 e.2) s) e.1 = e.2 := by
  induction l generalizing s with
  | nil => cases he
  | cons a l ih =>
    rw [List.map_cons, List.nodup_cons] at hn
    rw [List.foldl_cons]
    rcases List.mem_cons.1 he with rfl | he
    · rw [directRead_writes_other _ _ _ (fun b hb h => hn.1 (List.mem_map.2 ⟨b, hb, h⟩)), directRead_directWrite_same]
    · exact ih _ hn.2 he

theorem referencePostBootIo_nodup : (referencePostBootIo.map Prod.fst).Nodup := by decide +kernel
theorem referencePostBootIo_ne_ly : ∀ e ∈ referencePostBootIo, e.1 ≠ referenceIoAddr.ly := by
  simp [referencePostBootIo, referenceIoAddr]
theorem referencePostBootIo_high : ∀ e ∈ referencePostBootIo, 0xFF05 ≤ e.1.toNat := by simp [referencePostBootIo]

/-- The bytes a run of direct writes from `a` up leaves. -/
theorem directRead_writeBytes (a : Word) (l : List Byte) (hl : l.length ≤ 65536) (x : Word) :
    directRead (writeBytes s a l) x = (l[(x - a).toNat]?).getD (directRead s x) := by
  induction l generalizing s a with
  | nil => rfl
  | cons v l ih =>
    rw [List.length_cons] at hl
    unfold writeBytes
    rw [ih _ _ (by omega), directRead_directWrite]
    by_cases h : x = a
    · subst h
      have e1 : (x - (x + 1)).toNat = 65535 := by rw [BitVec.toNat_sub, BitVec.toNat_add]; simp; omega
      rw [e1, BitVec.sub_self, List.getElem?_eq_none (by omega), if_pos rfl]; rfl
    · have hne : (x - a).toNat ≠ 0 := by
        intro hz
        apply h
        have hx := x.isLt
        have ha := a.isLt
        apply BitVec.eq_of_toNat_eq
        rw [BitVec.toNat_sub] at hz; omega
      have e1 : (x - (a + 1)).toNat = (x - a).toNat - 1 := by
        have hx := x.isLt
        have ha := a.isLt
        rw [BitVec.toNat_sub] at hne ⊢
        rw [BitVec.toNat_sub, BitVec.toNat_add]
        simp; omega
      rw [e1, if_neg h]
      obtain ⟨n, hn⟩ : ∃ n, (x - a).toNat = n + 1 := ⟨(x - a).toNat - 1, by omega⟩
      rw [hn, Nat.add_sub_cancel, List.getElem?_cons_succ]

/-- What the reset procedure leaves (R501). -/
theorem resetMachine_eq :
    resetMachine s
      = (((((s.setCpu resetCpu).setMem (directWrite (writePostBoot s) s.cfg.io.ly 0).mem).setLcd ⟨0, 0⟩).setTimer
          ⟨256, timaPeriod (directRead (directWrite (writePostBoot s) s.cfg.io.ly 0) s.cfg.io.tac)⟩).setBreakFlag false).setSlotsDone 0 := by
  have e : writePostBoot (s.setCpu resetCpu) = (writePostBoot s).setCpu resetCpu := by
    unfold writePostBoot
    rw [State.setCpu_cfg]
    generalize s.cfg.postBootIo = l
    induction l generalizing s with
    | nil => rfl
    | cons a l ih => rw [List.foldl_cons, List.foldl_cons, ← ih]; rfl
  unfold resetMachine
  dsimp only
  rw [e, ← writePostBoot_frame]; rfl

theorem timaPeriod_nonneg (tac : Byte) : 0 ≤ timaPeriod tac := by unfold timaPeriod; split <;> decide

theorem resetMachine_parts (h : Memory.wf s.mem) (hfb : s.framebuffer.ok) :
    PartsOk s.cfg.io (resetMachine s).cpu (resetMachine s).mem (resetMachine s).lcd (resetMachine s).timer
      (resetMachine s).framebuffer := by
  rw [resetMachine_eq]
  have hw : Memory.wf (directWrite (writePostBoot s) s.cfg.io.ly 0).mem :=
    wf_directWrite _ _ _ (wf_writePostBoot s h)
  have hm : directRead (directWrite (writePostBoot s) s.cfg.io.ly 0) s.cfg.io.ly = 0 := directRead_directWrite_same _ _ _
  have hf : resetCpu.flagsOk := by unfold Cpu.flagsOk; decide
  have hl : (⟨0, 0⟩ : LcdTiming).ok := by unfold LcdTiming.ok; decide
  have ht : ∀ n : Int, 0 ≤ n → (⟨256, n⟩ : TimerState).ok := fun n hn => ⟨show (0 : Int) ≤ 256 by decide, hn⟩
  exact ⟨hw, hf, hl, ht _ (timaPeriod_nonneg _), hfb, hm⟩

end Sys2Proof.Machine
end

