-- ==== Sys2Proof/Tests/Slice0.lean ====
section
/-!
SUPPORT. The model's own tests: the parameter checks of WellFormed, the decoding of every table entry against the maps of R125
and R132, one-step vectors of spec/95_test_vectors.md, and a witness for every statement that has hypotheses.
-/

namespace Sys2Proof.Tests

open Sys2Proof Sys2Proof.Machine

/-! ### WellFormed: each check refuses an ill-formed term -/

theorem test_wf_reference : referenceConfig.wellFormed = true := by decide
theorem test_wf_instrsPerFrame_zero : Config.wellFormed { referenceConfig with instrsPerFrame := 0 } = false := by decide
theorem test_wf_saveCapacity_zero : Config.wellFormed { referenceConfig with saveCapacity := 0 } = false := by decide
theorem test_wf_breakOpcodes_range : Config.wellFormed { referenceConfig with breakOpcodes := [512] } = false := by decide
theorem test_wf_breakOpcodes_repeat : Config.wellFormed { referenceConfig with breakOpcodes := [1, 1] } = false := by decide
/-- TABLE with one difference from the reference: entry `index` is a LD A,n8 of the given length and selector. -/
def tableWith (index length : Nat) (operand1 : Selector) : Config :=
  { referenceConfig with table := [(index, ⟨length, 7, 9, operand1, .none, maskKKKK, .ldAN8 0⟩)] }

theorem test_wf_table : (tableWith 0 2 .imm8).wellFormed = true := by decide
theorem test_wf_table_index : (tableWith 512 2 .imm8).wellFormed = false := by decide
theorem test_wf_table_length : (tableWith 0 0 .imm8).wellFormed = false ∧ (tableWith 0 4 .imm8).wellFormed = false := by decide
theorem test_wf_table_selector : (tableWith 0 2 .imm16).wellFormed = false := by decide
theorem test_wf_table_repeat :
    Config.wellFormed { referenceConfig with table := (tableWith 0 2 .imm8).table ++ (tableWith 0 2 .imm8).table } = false := by
  decide
theorem test_wf_io_in_rom :
    Config.wellFormed { referenceConfig with io := { referenceIoAddr with dma := 0x7FFF } } = false := by decide
theorem test_wf_io_repeat :
    Config.wellFormed { referenceConfig with io := { referenceIoAddr with dma := 0xFF45 } } = false := by decide
theorem test_wf_instr : (Instr.addAB).wellFormed = true := by decide

/-! ### Decoding: the maps of R125 and R132, row by row -/

/-- The sixteen entries from opcode byte `op` up, decoded with the immediate bytes 0x34, 0x12, each with the bytes it takes and
its two cycle counts. -/
def mapRow (p : Bool) (op : Nat) : List (Instr × Nat × Nat × Nat) :=
  (List.range 16).filterMap (fun lo =>
    match decode p [BitVec.ofNat 8 (op + lo), 0x34, 0x12] with
    | .ok (i, rest) => some (i, 3 - rest.length, (descriptor i).mcycles, (descriptor i).mcyclesTaken)
    | .error _ => none)

theorem test_decode_op0x : mapRow false 0x00 =
    [(.nop, 1, 1, 1), (.ldBcN16 0x1234, 3, 3, 3), (.ldAtBcA, 1, 2, 2), (.incBc, 1, 2, 2),
     (.incB, 1, 1, 1), (.decB, 1, 1, 1), (.ldBN8 0x34, 2, 2, 2), (.rlca, 1, 1, 1),
     (.ldAtN16Sp 0x1234, 3, 5, 5), (.addHlBc, 1, 2, 2), (.ldAAtBc, 1, 2, 2), (.decBc, 1, 2, 2),
     (.incC, 1, 1, 1), (.decC, 1, 1, 1), (.ldCN8 0x34, 2, 2, 2), (.rrca, 1, 1, 1)] := by decide

theorem test_decode_op1x : mapRow false 0x10 =
    [(.stop 0x34, 2, 1, 1), (.ldDeN16 0x1234, 3, 3, 3), (.ldAtDeA, 1, 2, 2), (.incDe, 1, 2, 2),
     (.incD, 1, 1, 1), (.decD, 1, 1, 1), (.ldDN8 0x34, 2, 2, 2), (.rla, 1, 1, 1),
     (.jrE8 0x34, 2, 3, 3), (.addHlDe, 1, 2, 2), (.ldAAtDe, 1, 2, 2), (.decDe, 1, 2, 2),
     (.incE, 1, 1, 1), (.decE, 1, 1, 1), (.ldEN8 0x34, 2, 2, 2), (.rra, 1, 1, 1)] := by decide

theorem test_decode_op2x : mapRow false 0x20 =
    [(.jrNzE8 0x34, 2, 2, 3), (.ldHlN16 0x1234, 3, 3, 3), (.ldAtHlIncA, 1, 2, 2), (.incHl, 1, 2, 2),
     (.incH, 1, 1, 1), (.decH, 1, 1, 1), (.ldHN8 0x34, 2, 2, 2), (.daa, 1, 1, 1),
     (.jrZE8 0x34, 2, 2, 3), (.addHlHl, 1, 2, 2), (.ldAAtHlInc, 1, 2, 2), (.decHl, 1, 2, 2),
     (.incL, 1, 1, 1), (.decL, 1, 1, 1), (.ldLN8 0x34, 2, 2, 2), (.cpl, 1, 1, 1)] := by decide

theorem test_decode_op3x : mapRow false 0x30 =
    [(.jrNcE8 0x34, 2, 2, 3), (.ldSpN16 0x1234, 3, 3, 3), (.ldAtHlDecA, 1, 2, 2), (.incSp, 1, 2, 2),
     (.incAtHl, 1, 3, 3), (.decAtHl, 1, 3, 3), (.ldAtHlN8 0x34, 2, 3, 3), (.scf, 1, 1, 1),
     (.jrCE8 0x34, 2, 2, 3), (.addHlSp, 1, 2, 2), (.ldAAtHlDec, 1, 2, 2), (.decSp, 1, 2, 2),
     (.incA, 1, 1, 1), (.decA, 1, 1, 1), (.ldAN8 0x34, 2, 2, 2), (.ccf, 1, 1, 1)] := by decide

theorem test_decode_op4x : mapRow false 0x40 =
    [(.ldBB, 1, 1, 1), (.ldBC, 1, 1, 1), (.ldBD, 1, 1, 1), (.ldBE, 1, 1, 1),
     (.ldBH, 1, 1, 1), (.ldBL, 1, 1, 1), (.ldBAtHl, 1, 2, 2), (.ldBA, 1, 1, 1),
     (.ldCB, 1, 1, 1), (.ldCC, 1, 1, 1), (.ldCD, 1, 1, 1), (.ldCE, 1, 1, 1),
     (.ldCH, 1, 1, 1), (.ldCL, 1, 1, 1), (.ldCAtHl, 1, 2, 2), (.ldCA, 1, 1, 1)] := by decide

theorem test_decode_op5x : mapRow false 0x50 =
    [(.ldDB, 1, 1, 1), (.ldDC, 1, 1, 1), (.ldDD, 1, 1, 1), (.ldDE, 1, 1, 1),
     (.ldDH, 1, 1, 1), (.ldDL, 1, 1, 1), (.ldDAtHl, 1, 2, 2), (.ldDA, 1, 1, 1),
     (.ldEB, 1, 1, 1), (.ldEC, 1, 1, 1), (.ldED, 1, 1, 1), (.ldEE, 1, 1, 1),
     (.ldEH, 1, 1, 1), (.ldEL, 1, 1, 1), (.ldEAtHl, 1, 2, 2), (.ldEA, 1, 1, 1)] := by decide

theorem test_decode_op6x : mapRow false 0x60 =
    [(.ldHB, 1, 1, 1), (.ldHC, 1, 1, 1), (.ldHD, 1, 1, 1), (.ldHE, 1, 1, 1),
     (.ldHH, 1, 1, 1), (.ldHL, 1, 1, 1), (.ldHAtHl, 1, 2, 2), (.ldHA, 1, 1, 1),
     (.ldLB, 1, 1, 1), (.ldLC, 1, 1, 1), (.ldLD, 1, 1, 1), (.ldLE, 1, 1, 1),
     (.ldLH, 1, 1, 1), (.ldLL, 1, 1, 1), (.ldLAtHl, 1, 2, 2), (.ldLA, 1, 1, 1)] := by decide

theorem test_decode_op7x : mapRow false 0x70 =
    [(.ldAtHlB, 1, 2, 2), (.ldAtHlC, 1, 2, 2), (.ldAtHlD, 1, 2, 2), (.ldAtHlE, 1, 2, 2),
     (.ldAtHlH, 1, 2, 2), (.ldAtHlL, 1, 2, 2), (.halt, 1, 1, 1), (.ldAtHlA, 1, 2, 2),
     (.ldAB, 1, 1, 1), (.ldAC, 1, 1, 1), (.ldAD, 1, 1, 1), (.ldAE, 1, 1, 1),
     (.ldAH, 1, 1, 1), (.ldAL, 1, 1, 1), (.ldAAtHl, 1, 2, 2), (.ldAA, 1, 1, 1)] := by decide

theorem test_decode_op8x : mapRow false 0x80 =
    [(.addAB, 1, 1, 1), (.addAC, 1, 1, 1), (.addAD, 1, 1, 1), (.addAE, 1, 1, 1),
     (.addAH, 1, 1, 1), (.addAL, 1, 1, 1), (.addAAtHl, 1, 2, 2), (.addAA, 1, 1, 1),
     (.adcAB, 1, 1, 1), (.adcAC, 1, 1, 1), (.adcAD, 1, 1, 1), (.adcAE, 1, 1, 1),
     (.adcAH, 1, 1, 1), (.adcAL, 1, 1, 1), (.adcAAtHl, 1, 2, 2), (.adcAA, 1, 1, 1)] := by decide

theorem test_decode_op9x : mapRow false 0x90 =
    [(.subAB, 1, 1, 1), (.subAC, 1, 1, 1), (.subAD, 1, 1, 1), (.subAE, 1, 1, 1),
     (.subAH, 1, 1, 1), (.subAL, 1, 1, 1), (.subAAtHl, 1, 2, 2), (.subAA, 1, 1, 1),
     (.sbcAB, 1, 1, 1), (.sbcAC, 1, 1, 1), (.sbcAD, 1, 1, 1), (.sbcAE, 1, 1, 1),
     (.sbcAH, 1, 1, 1), (.sbcAL, 1, 1, 1), (.sbcAAtHl, 1, 2, 2), (.sbcAA, 1, 1, 1)] := by decide

theorem test_decode_opAx : mapRow false 0xA0 =
    [(.andAB, 1, 1, 1), (.andAC, 1, 1, 1), (.andAD, 1, 1, 1), (.andAE, 1, 1, 1),
     (.andAH, 1, 1, 1), (.andAL, 1, 1, 1), (.andAAtHl, 1, 2, 2), (.andAA, 1, 1, 1),
     (.xorAB, 1, 1, 1), (.xorAC, 1, 1, 1), (.xorAD, 1, 1, 1), (.xorAE, 1, 1, 1),
     (.xorAH, 1, 1, 1), (.xorAL, 1, 1, 1), (.xorAAtHl, 1, 2, 2), (.xorAA, 1, 1, 1)] := by decide

theorem test_decode_opBx : mapRow false 0xB0 =
    [(.orAB, 1, 1, 1), (.orAC, 1, 1, 1), (.orAD, 1, 1, 1), (.orAE, 1, 1, 1),
     (.orAH, 1, 1, 1), (.orAL, 1, 1, 1), (.orAAtHl, 1, 2, 2), (.orAA, 1, 1, 1),
     (.cpAB, 1, 1, 1), (.cpAC, 1, 1, 1), (.cpAD, 1, 1, 1), (.cpAE, 1, 1, 1),
     (.cpAH, 1, 1, 1), (.cpAL, 1, 1, 1), (.cpAAtHl, 1, 2, 2), (.cpAA, 1, 1, 1)] := by decide

theorem test_decode_opCx : mapRow false 0xC0 =
    [(.retNz, 1, 2, 5), (.popBc, 1, 3, 3), (.jpNzN16 0x1234, 3, 3, 4), (.jpN16 0x1234, 3, 4, 4),
     (.callNzN16 0x1234, 3, 3, 6), (.pushBc, 1, 4, 4), (.addAN8 0x34, 2, 2, 2), (.rst00, 1, 4, 4),
     (.retZ, 1, 2, 5), (.ret, 1, 4, 4), (.jpZN16 0x1234, 3, 3, 4), (.prefixCb, 1, 1, 1),
     (.callZN16 0x1234, 3, 3, 6), (.callN16 0x1234, 3, 6, 6), (.adcAN8 0x34, 2, 2, 2), (.rst08, 1, 4, 4)] := by decide

theorem test_decode_opDx : mapRow false 0xD0 =
    [(.retNc, 1, 2, 5), (.popDe, 1, 3, 3), (.jpNcN16 0x1234, 3, 3, 4), (.undefinedD3, 1, 0, 0),
     (.callNcN16 0x1234, 3, 3, 6), (.pushDe, 1, 4, 4), (.subAN8 0x34, 2, 2, 2), (.rst10, 1, 4, 4),
     (.retC, 1, 2, 5), (.reti, 1, 4, 4), (.jpCN16 0x1234, 3, 3, 4), (.undefinedDB, 1, 0, 0),
     (.callCN16 0x1234, 3, 3, 6), (.undefinedDD, 1, 0, 0), (.sbcAN8 0x34, 2, 2, 2), (.rst18, 1, 4, 4)] := by decide

theorem test_decode_opEx : mapRow false 0xE0 =
    [(.ldhAtN8A 0x34, 2, 3, 3), (.popHl, 1, 3, 3), (.ldhAtCA, 1, 2, 2), (.undefinedE3, 1, 0, 0),
     (.undefinedE4, 1, 0, 0), (.pushHl, 1, 4, 4), (.andAN8 0x34, 2, 2, 2), (.rst20, 1, 4, 4),
     (.addSpE8 0x34, 2, 4, 4), (.jpHl, 1, 1, 1), (.ldAtN16A 0x1234, 3, 4, 4), (.undefinedEB, 1, 0, 0),
     (.undefinedEC, 1, 0, 0), (.undefinedED, 1, 0, 0), (.xorAN8 0x34, 2, 2, 2), (.rst28, 1, 4, 4)] := by decide

theorem test_decode_opFx : mapRow false 0xF0 =
    [(.ldhAAtN8 0x34, 2, 3, 3), (.popAf, 1, 3, 3), (.ldhAAtC, 1, 2, 2), (.di, 1, 1, 1),
     (.undefinedF4, 1, 0, 0), (.pushAf, 1, 4, 4), (.orAN8 0x34, 2, 2, 2), (.rst30, 1, 4, 4),
     (.ldHlSpE8 0x34, 2, 3, 3), (.ldSpHl, 1, 2, 2), (.ldAAtN16 0x1234, 3, 4, 4), (.ei, 1, 1, 1),
     (.undefinedFC, 1, 0, 0), (.undefinedFD, 1, 0, 0), (.cpAN8 0x34, 2, 2, 2), (.rst38, 1, 4, 4)] := by decide

theorem test_decode_cb0x : mapRow true 0x00 =
    [(.rlcB, 1, 1, 1), (.rlcC, 1, 1, 1), (.rlcD, 1, 1, 1), (.rlcE, 1, 1, 1),
     (.rlcH, 1, 1, 1), (.rlcL, 1, 1, 1), (.rlcAtHl, 1, 3, 3), (.rlcA, 1, 1, 1),
     (.rrcB, 1, 1, 1), (.rrcC, 1, 1, 1), (.rrcD, 1, 1, 1), (.rrcE, 1, 1, 1),
     (.rrcH, 1, 1, 1), (.rrcL, 1, 1, 1), (.rrcAtHl, 1, 3, 3), (.rrcA, 1, 1, 1)] := by decide

theorem test_decode_cb1x : mapRow true 0x10 =
    [(.rlB, 1, 1, 1), (.rlC, 1, 1, 1), (.rlD, 1, 1, 1), (.rlE, 1, 1, 1),
     (.rlH, 1, 1, 1), (.rlL, 1, 1, 1), (.rlAtHl, 1, 3, 3), (.rlA, 1, 1, 1),
     (.rrB, 1, 1, 1), (.rrC, 1, 1, 1), (.rrD, 1, 1, 1), (.rrE, 1, 1, 1),
     (.rrH, 1, 1, 1), (.rrL, 1, 1, 1), (.rrAtHl, 1, 3, 3), (.rrA, 1, 1, 1)] := by decide

theorem test_decode_cb2x : mapRow true 0x20 =
    [(.slaB, 1, 1, 1), (.slaC, 1, 1, 1), (.slaD, 1, 1, 1), (.slaE, 1, 1, 1),
     (.slaH, 1, 1, 1), (.slaL, 1, 1, 1), (.slaAtHl, 1, 3, 3), (.slaA, 1, 1, 1),
     (.sraB, 1, 1, 1), (.sraC, 1, 1, 1), (.sraD, 1, 1, 1), (.sraE, 1, 1, 1),
     (.sraH, 1, 1, 1), (.sraL, 1, 1, 1), (.sraAtHl, 1, 3, 3), (.sraA, 1, 1, 1)] := by decide

theorem test_decode_cb3x : mapRow true 0x30 =
    [(.swapB, 1, 1, 1), (.swapC, 1, 1, 1), (.swapD, 1, 1, 1), (.swapE, 1, 1, 1),
     (.swapH, 1, 1, 1), (.swapL, 1, 1, 1), (.swapAtHl, 1, 3, 3), (.swapA, 1, 1, 1),
     (.srlB, 1, 1, 1), (.srlC, 1, 1, 1), (.srlD, 1, 1, 1), (.srlE, 1, 1, 1),
     (.srlH, 1, 1, 1), (.srlL, 1, 1, 1), (.srlAtHl, 1, 3, 3), (.srlA, 1, 1, 1)] := by decide

theorem test_decode_cb4x : mapRow true 0x40 =
    [(.bit0B, 1, 1, 1), (.bit0C, 1, 1, 1), (.bit0D, 1, 1, 1), (.bit0E, 1, 1, 1),
     (.bit0H, 1, 1, 1), (.bit0L, 1, 1, 1), (.bit0AtHl, 1, 2, 2), (.bit0A, 1, 1, 1),
     (.bit1B, 1, 1, 1), (.bit1C, 1, 1, 1), (.bit1D, 1, 1, 1), (.bit1E, 1, 1, 1),
     (.bit1H, 1, 1, 1), (.bit1L, 1, 1, 1), (.bit1AtHl, 1, 2, 2), (.bit1A, 1, 1, 1)] := by decide

theorem test_decode_cb5x : mapRow true 0x50 =
    [(.bit2B, 1, 1, 1), (.bit2C, 1, 1, 1), (.bit2D, 1, 1, 1), (.bit2E, 1, 1, 1),
     (.bit2H, 1, 1, 1), (.bit2L, 1, 1, 1), (.bit2AtHl, 1, 2, 2), (.bit2A, 1, 1, 1),
     (.bit3B, 1, 1, 1), (.bit3C, 1, 1, 1), (.bit3D, 1, 1, 1), (.bit3E, 1, 1, 1),
     (.bit3H, 1, 1, 1), (.bit3L, 1, 1, 1), (.bit3AtHl, 1, 2, 2), (.bit3A, 1, 1, 1)] := by decide

theorem test_decode_cb6x : mapRow true 0x60 =
    [(.bit4B, 1, 1, 1), (.bit4C, 1, 1, 1), (.bit4D, 1, 1, 1), (.bit4E, 1, 1, 1),
     (.bit4H, 1, 1, 1), (.bit4L, 1, 1, 1), (.bit4AtHl, 1, 2, 2), (.bit4A, 1, 1, 1),
     (.bit5B, 1, 1, 1), (.bit5C, 1, 1, 1), (.bit5D, 1, 1, 1), (.bit5E, 1, 1, 1),
     (.bit5H, 1, 1, 1), (.bit5L, 1, 1, 1), (.bit5AtHl, 1, 2, 2), (.bit5A, 1, 1, 1)] := by decide

theorem test_decode_cb7x : mapRow true 0x70 =
    [(.bit6B, 1, 1, 1), (.bit6C, 1, 1, 1), (.bit6D, 1, 1, 1), (.bit6E, 1, 1, 1),
     (.bit6H, 1, 1, 1), (.bit6L, 1, 1, 1), (.bit6AtHl, 1, 2, 2), (.bit6A, 1, 1, 1),
     (.bit7B, 1, 1, 1), (.bit7C, 1, 1, 1), (.bit7D, 1, 1, 1), (.bit7E, 1, 1, 1),
     (.bit7H, 1, 1, 1), (.bit7L, 1, 1, 1), (.bit7AtHl, 1, 2, 2), (.bit7A, 1, 1, 1)] := by decide

theorem test_decode_cb8x : mapRow true 0x80 =
    [(.res0B, 1, 1, 1), (.res0C, 1, 1, 1), (.res0D, 1, 1, 1), (.res0E, 1, 1, 1),
     (.res0H, 1, 1, 1), (.res0L, 1, 1, 1), (.res0AtHl, 1, 3, 3), (.res0A, 1, 1, 1),
     (.res1B, 1, 1, 1), (.res1C, 1, 1, 1), (.res1D, 1, 1, 1), (.res1E, 1, 1, 1),
     (.res1H, 1, 1, 1), (.res1L, 1, 1, 1), (.res1AtHl, 1, 3, 3), (.res1A, 1, 1, 1)] := by decide

theorem test_decode_cb9x : mapRow true 0x90 =
    [(.res2B, 1, 1, 1), (.res2C, 1, 1, 1), (.res2D, 1, 1, 1), (.res2E, 1, 1, 1),
     (.res2H, 1, 1, 1), (.res2L, 1, 1, 1), (.res2AtHl, 1, 3, 3), (.res2A, 1, 1, 1),
     (.res3B, 1, 1, 1), (.res3C, 1, 1, 1), (.res3D, 1, 1, 1), (.res3E, 1, 1, 1),
     (.res3H, 1, 1, 1), (.res3L, 1, 1, 1), (.res3AtHl, 1, 3, 3), (.res3A, 1, 1, 1)] := by decide

theorem test_decode_cbAx : mapRow true 0xA0 =
    [(.res4B, 1, 1, 1), (.res4C, 1, 1, 1), (.res4D, 1, 1, 1), (.res4E, 1, 1, 1),
     (.res4H, 1, 1, 1), (.res4L, 1, 1, 1), (.res4AtHl, 1, 3, 3), (.res4A, 1, 1, 1),
     (.res5B, 1, 1, 1), (.res5C, 1, 1, 1), (.res5D, 1, 1, 1), (.res5E, 1, 1, 1),
     (.res5H, 1, 1, 1), (.res5L, 1, 1, 1), (.res5AtHl, 1, 3, 3), (.res5A, 1, 1, 1)] := by decide

theorem test_decode_cbBx : mapRow true 0xB0 =
    [(.res6B, 1, 1, 1), (.res6C, 1, 1, 1), (.res6D, 1, 1, 1), (.res6E, 1, 1, 1),
     (.res6H, 1, 1, 1), (.res6L, 1, 1, 1), (.res6AtHl, 1, 3, 3), (.res6A, 1, 1, 1),
     (.res7B, 1, 1, 1), (.res7C, 1, 1, 1), (.res7D, 1, 1, 1), (.res7E, 1, 1, 1),
     (.res7H, 1, 1, 1), (.res7L, 1, 1, 1), (.res7AtHl, 1, 3, 3), (.res7A, 1, 1, 1)] := by decide

theorem test_decode_cbCx : mapRow true 0xC0 =
    [(.set0B, 1, 1, 1), (.set0C, 1, 1, 1), (.set0D, 1, 1, 1), (.set0E, 1, 1, 1),
     (.set0H, 1, 1, 1), (.set0L, 1, 1, 1), (.set0AtHl, 1, 3, 3), (.set0A, 1, 1, 1),
     (.set1B, 1, 1, 1), (.set1C, 1, 1, 1), (.set1D, 1, 1, 1), (.set1E, 1, 1, 1),
     (.set1H, 1, 1, 1), (.set1L, 1, 1, 1), (.set1AtHl, 1, 3, 3), (.set1A, 1, 1, 1)] := by decide

theorem test_decode_cbDx : mapRow true 0xD0 =
    [(.set2B, 1, 1, 1), (.set2C, 1, 1, 1), (.set2D, 1, 1, 1), (.set2E, 1, 1, 1),
     (.set2H, 1, 1, 1), (.set2L, 1, 1, 1), (.set2AtHl, 1, 3, 3), (.set2A, 1, 1, 1),
     (.set3B, 1, 1, 1), (.set3C, 1, 1, 1), (.set3D, 1, 1, 1), (.set3E, 1, 1, 1),
     (.set3H, 1, 1, 1), (.set3L, 1, 1, 1), (.set3AtHl, 1, 3, 3), (.set3A, 1, 1, 1)] := by decide

theorem test_decode_cbEx : mapRow true 0xE0 =
    [(.set4B, 1, 1, 1), (.set4C, 1, 1, 1), (.set4D, 1, 1, 1), (.set4E, 1, 1, 1),
     (.set4H, 1, 1, 1), (.set4L, 1, 1, 1), (.set4AtHl, 1, 3, 3), (.set4A, 1, 1, 1),
     (.set5B, 1, 1, 1), (.set5C, 1, 1, 1), (.set5D, 1, 1, 1), (.set5E, 1, 1, 1),
     (.set5H, 1, 1, 1), (.set5L, 1, 1, 1), (.set5AtHl, 1, 3, 3), (.set5A, 1, 1, 1)] := by decide

theorem test_decode_cbFx : mapRow true 0xF0 =
    [(.set6B, 1, 1, 1), (.set6C, 1, 1, 1), (.set6D, 1, 1, 1), (.set6E, 1, 1, 1),
     (.set6H, 1, 1, 1), (.set6L, 1, 1, 1), (.set6AtHl, 1, 3, 3), (.set6A, 1, 1, 1),
     (.set7B, 1, 1, 1), (.set7C, 1, 1, 1), (.set7D, 1, 1, 1), (.set7E, 1, 1, 1),
     (.set7H, 1, 1, 1), (.set7L, 1, 1, 1), (.set7AtHl, 1, 3, 3), (.set7A, 1, 1, 1)] := by decide

theorem test_decode_whole_words :
    (decodeWord [0xCB, 0x37, 0x99]).toOption = some (.swapA, [0x99]) ∧ (decodeWord [0xCB]).toOption = some (.prefixCb, [])
    ∧ (decodeWord [0x3E]).toOption = none ∧ (decodeWord []).toOption = none
    ∧ decodeTableWord 16 0x37CB = some .swapA ∧ decodeTableWord 8 0xC3 = some (.jpN16 0x0000)
    ∧ encode (.callCN16 0xC800) = [0xDC, 0x00, 0xC8] := by decide

/-! ### One step of each family (spec/95_test_vectors.md, L2) -/

/-- A CPU with all registers 0 but PC and SP. -/
def cpu0 : Cpu := { af := 0, bc := 0, de := 0, hl := 0, sp := 0xD000, pc := 0xC000, ime := false, prefixOp := false }

/-- The start state of the vectors: the LCD off, inside the batch of a running frame. -/
def start (cpu : Cpu) (bytes : List Byte) : State :=
  writeBytes ((((directWrite State.reset 0xFF40 0).setCpu cpu).setRunState .running).setInBatch true) cpu.pc bytes

/-- The state after one step. -/
def after (s : State) : State :=
  match step s with
  | .next t => t
  | _ => s

/-- Some bytes stored. -/
def poke (s : State) (l : List (Word × Byte)) : State := l.foldl (fun t e => directWrite t e.1 e.2) s

theorem test_load_hl_decrement_wraps :
    let t := after (poke (start { cpu0 with hl := 0 } [0x3A]) [(0x0000, 0x31)])
    t.regA = 0x31 ∧ t.cpu.hl = 0xFFFF ∧ t.cpu.pc = 0xC001 ∧ t.timer.clocksTillDivInc = 248 := by decide

theorem test_store_to_rom_is_dropped :
    let t := after (start { cpu0 with hl := 0x2000, bc := 0x1100 } [0x70])
    directRead t 0x2000 = 0 ∧ t.mem = (beginIteration (start { cpu0 with hl := 0x2000, bc := 0x1100 } [0x70])).mem := by decide

theorem test_store_to_sb_is_forwarded :
    let t := after (start { cpu0 with af := 0x4800 } [0xE0, 0x01])
    directRead t 0xFF01 = 0 ∧ t.serialOut = [0x48] := by decide

theorem test_ld_n16_sp_each_byte_by_its_own_case :
    let t := after (start { cpu0 with sp := 0xBEEF } [0x08, 0xFF, 0x7F])
    directRead t 0x7FFF = 0 ∧ directRead t 0x8000 = 0xBE := by decide

theorem test_oam_dma :
    let t := after (start { cpu0 with af := 0xC000 } [0xEA, 0x46, 0xFF])
    directRead t 0xFE00 = 0xEA ∧ directRead t 0xFE01 = 0x46 ∧ directRead t 0xFF46 = 0 := by decide +kernel

theorem test_push_wraps :
    let t := after (start { cpu0 with sp := 0x0001, bc := 0xABCD } [0xC5])
    t.cpu.sp = 0xFFFF ∧ directRead t 0xFFFF = 0xCD := by decide

theorem test_pop_af_masks_f :
    let t := after (poke (start { cpu0 with sp := 0xCFFE } [0xF1]) [(0xCFFE, 0xFF), (0xCFFF, 0x12)])
    t.cpu.af = 0x12F0 ∧ t.cpu.sp = 0xD000 := by decide

theorem test_add_zero_half_and_full_carry :
    (after (start { cpu0 with af := 0x3A00, bc := 0xC600 } [0x80])).cpu.af = 0x00B0 := by decide

theorem test_adc_carry_in : (after (start { cpu0 with af := 0xFF10 } [0xCE, 0x00])).cpu.af = 0x00B0 := by decide

theorem test_sub_borrow : (after (start { cpu0 with af := 0x3E00 } [0xD6, 0x40])).cpu.af = 0xFE50 := by decide

theorem test_sbc_borrow_in : (after (start { cpu0 with af := 0x0010 } [0xDE, 0x00])).cpu.af = 0xFF70 := by decide

theorem test_and_l : (after (start { cpu0 with af := 0x5A00, hl := 0x003F } [0xA5])).cpu.af = 0x1A20 := by decide

theorem test_cp_at_hl :
    (after (poke (start { cpu0 with af := 0x3C00, hl := 0xC100 } [0xBE]) [(0xC100, 0x2F)])).cpu.af = 0x3C60 := by decide

theorem test_inc_keeps_c : (after (start { cpu0 with af := 0x0010, bc := 0x0F00 } [0x04])).cpu = { cpu0 with af := 0x0030, bc := 0x1000, pc := 0xC001 } := by
  decide

theorem test_dec_at_div :
    let t := after (poke (start { cpu0 with hl := 0xFF04 } [0x35]) [(0xFF04, 0x01)])
    directRead t 0xFF04 = 0 ∧ t.regF = 0xC0 := by decide

theorem test_daa_after_subtraction : (after (start { cpu0 with af := 0x4B60 } [0x27])).cpu.af = 0x4540 := by decide

theorem test_daa_not_decimal : (after (start { cpu0 with af := 0x9A00 } [0x27])).cpu.af = 0x0090 := by decide

theorem test_add_hl_hl : (after (start { cpu0 with hl := 0x8A23 } [0x29])).cpu = { cpu0 with af := 0x0030, hl := 0x1446, pc := 0xC001 } := by
  decide

theorem test_add_sp_negative : (after (start { cpu0 with sp := 0x00FF } [0xE8, 0xFF])).cpu = { cpu0 with af := 0x0030, sp := 0x00FE, pc := 0xC002 } := by
  decide

theorem test_rlca_clears_z : (after (start { cpu0 with af := 0x8580 } [0x07])).cpu.af = 0x0B10 := by decide

theorem test_prefixed_pair_is_one_slot :
    let t := after (start { cpu0 with af := 0xF010 } [0xCB, 0x37])
    t.cpu.prefixOp = true ∧ t.slotsDone = 0 ∧ (after t).cpu.af = 0x0F00 ∧ (after t).slotsDone = 1
      ∧ (after t).cpu.pc = 0xC002 ∧ (after t).timer.clocksTillDivInc = 248 := by decide

theorem test_sra_keeps_bit7 :
    (after (start { cpu0 with hl := 0x0081, prefixOp := true } [0x2D])).cpu = { cpu0 with af := 0x0010, hl := 0x00C0, pc := 0xC001 } := by
  decide

theorem test_bit_keeps_c :
    (after (start { cpu0 with af := 0x0010, hl := 0x7F00, prefixOp := true } [0x7C])).regF = 0xB0 := by decide

theorem test_set_at_hl :
    directRead (after (start { cpu0 with hl := 0xC100, prefixOp := true } [0xFE])) 0xC100 = 0x80 := by decide

theorem test_jp_to_the_next_instruction_is_charged_as_not_taken :
    let t := after (start cpu0 [0xC2, 0x03, 0xC0])
    t.cpu.pc = 0xC003 ∧ t.timer.clocksTillDivInc = 244 := by decide

theorem test_jr_backwards : (after (start cpu0 [0x18, 0x80])).cpu.pc = 0xBF82 := by decide

theorem test_call :
    let t := after (start cpu0 [0xCD, 0x00, 0xC8])
    t.cpu.pc = 0xC800 ∧ t.cpu.sp = 0xCFFE ∧ directRead t 0xCFFE = 0x03 ∧ directRead t 0xCFFF = 0xC0
      ∧ t.timer.clocksTillDivInc = 232 := by decide

theorem test_reti :
    let t := after (poke (start { cpu0 with sp := 0xCFFE } [0xD9]) [(0xCFFE, 0x53), (0xCFFF, 0x01)])
    t.cpu.pc = 0x0153 ∧ t.cpu.sp = 0xD000 ∧ t.cpu.ime = true := by decide

theorem test_rst : (after (start cpu0 [0xEF])).cpu.pc = 0x0028 := by decide

theorem test_halt_spin :
    let s := start cpu0 [0x76]
    (after { s with cfg := { s.cfg with haltPolicy := .spin } }).cpu.pc = 0xC000 ∧ (after s).cpu.pc = 0xC001 := by decide

theorem test_stop_skips_its_operand : (after (start cpu0 [0x10, 0xCB])).cpu = { cpu0 with pc := 0xC002 } := by decide

theorem test_undefined_is_stuck :
    step (start cpu0 [0xD3]) = .fault (.undefinedOpcode 0xD3 0xC000)
    ∧ faultText (.undefinedOpcode 0xD3 0xC000) = "undefined opcode D3 at C000".toList := ⟨rfl, by decide⟩

/-- An entry of the parameter TABLE is used instead of the reference one: its length, its operand, its counts, its effect. -/
theorem test_table_parameter :
    let s := start cpu0 [0x00, 0x42]
    let t := after { s with cfg := tableWith 0 2 .imm8 }
    t.regA = 0x42 ∧ t.cpu.pc = 0xC002 ∧ t.timer.clocksTillDivInc = 228 := by decide

/-- The register addresses are those of the parameter IO_ADDR: DIV at 0xFF50 is stored as 0, and 0xFF04 is plain memory. -/
theorem test_io_parameter :
    let s := start { cpu0 with af := 0x1200, hl := 0xFF50 } []
    let u := { s with cfg := { s.cfg with io := { referenceIoAddr with div := 0xFF50 } } }
    directRead (memWrite u 0xFF50 0x12) 0xFF50 = 0 ∧ directRead (memWrite u 0xFF04 0x12) 0xFF04 = 0x12 := by decide

/-- Under PREFIX_CYCLE_SPLIT = both_full the prefixed half of SWAP A is charged 2 M-cycles (R132). -/
theorem test_both_full :
    let s := start { cpu0 with af := 0xF000, prefixOp := true } [0x37]
    (after { s with cfg := { s.cfg with prefixCycleSplit := .bothFull } }).timer.clocksTillDivInc = 248 := by decide

/-! ### Devices and the orchestrator -/

theorem test_interrupt_priority :
    let t := after (poke (start { cpu0 with ime := true } []) [(0xFFFF, 0x05), (0xFF0F, 0x05)])
    t.cpu = { cpu0 with sp := 0xCFFE, pc := 0x0040 } ∧ directRead t 0xFF0F = 0x04 ∧ directRead t 0xCFFE = 0x00
      ∧ directRead t 0xCFFF = 0xC0 ∧ t.timer.clocksTillDivInc = 236 := by decide

theorem test_no_dispatch_between_the_halves_of_a_pair :
    (after (poke (start { cpu0 with af := 0xF000, ime := true, prefixOp := true } [0x37]) [(0xFFFF, 0x01), (0xFF0F, 0x01)])).cpu
      = { cpu0 with af := 0x0F00, ime := true, pc := 0xC001 } := by decide

theorem test_timer_overflow :
    let t := timerAdvance ((poke (start cpu0 []) [(0xFF07, 0x05), (0xFF05, 0xFF)]).setTimer ⟨256, 16⟩) 16
    directRead t 0xFF05 = 0 ∧ directRead t 0xFF0F = 0x04 ∧ t.timer.clocksTillTimaInc = 16 := by decide

theorem test_timer_one_increment_a_call :
    let t := timerAdvance ((poke (start cpu0 []) [(0xFF07, 0x05), (0xFF05, 0x10)]).setTimer ⟨256, 16⟩) 40
    directRead t 0xFF05 = 0x11 ∧ t.timer.clocksTillTimaInc = 0 := by decide

theorem test_div_rearm :
    let t := timerAdvance ((poke (start cpu0 []) [(0xFF04, 0xFF)]).setTimer ⟨4, 16⟩) 24
    directRead t 0xFF04 = 0 ∧ t.timer.clocksTillDivInc = 236 := by decide

theorem test_ppu_modes :
    [ppuMode 0 0, ppuMode 0 80, ppuMode 0 81, ppuMode 0 248, ppuMode 0 249, ppuMode 0 455, ppuMode 144 10, ppuMode 153 300]
      = [2, 2, 3, 3, 0, 0, 1, 1] := by decide

theorem test_ppu_line_wraps_to_0 :
    let t := ppuAdvance ((poke (start cpu0 []) [(0xFF40, 0x91), (0xFF45, 0x63)]).setLcd ⟨450, 153⟩) 8
    t.lcd = ⟨2, 0⟩ ∧ t.framebuffer = [] := by decide

theorem test_ppu_vblank_level_request :
    let s := (poke (start cpu0 []) [(0xFF40, 0x91), (0xFF45, 0x63)]).setLcd ⟨4, 144⟩
    directRead (ppuAdvance s 4) 0xFF0F = 0x01 ∧ directRead (ppuAdvance s 4) 0xFF41 = 0x01 := by decide

theorem test_ppu_off_holds_line_0 :
    let t := ppuAdvance ((poke (start cpu0 []) [(0xFF40, 0x11), (0xFF41, 0x83)]).setLcd ⟨100, 77⟩) 20
    t.lcd = ⟨100, 0⟩ ∧ directRead t 0xFF41 = 0x83 := by decide

theorem test_background_pixel :
    let s := poke (start cpu0 []) [(0x8000, 0x80), (0x8001, 0x80), (0x8002, 0xFF)]
    bgPixel s 0x91 0 0 = 3 ∧ bgPixel s 0x91 0 1 = 0 ∧ bgPixel s 0x91 1 159 = 1 ∧ bgPixel s 0x90 1 0 = 0 := by decide

theorem test_background_signed_tiles :
    let s := poke (start cpu0 []) [(0x9800, 0x80), (0x8801, 0xFF)]
    bgPixel s 0x81 0 7 = 2 ∧ bgPixel s 0x81 0 8 = 0 := by decide

theorem test_sprite_flip :
    let s := poke (start cpu0 []) [(0x8010, 0xC0)]
    drawSprite s 0x93 0 (List.replicate 10 0) ⟨16, 8, 1, 0x00⟩ = [1, 1, 0, 0, 0, 0, 0, 0, 0, 0]
    ∧ drawSprite s 0x93 0 (List.replicate 10 0) ⟨16, 8, 1, 0x20⟩ = [0, 0, 0, 0, 0, 0, 1, 1, 0, 0] := by decide

theorem test_joypad_groups :
    let held : Joypad := ⟨false, false, false, true, true, false, false, false⟩
    [joypByte 0x20 held, joypByte 0x10 held, joypByte 0x30 held, joypByte 0x00 held, joypByte 0xEF held]
      = [0x2E, 0x1E, 0x30, 0x0E, 0xEE] := by decide

theorem test_word_read_wraps :
    memRead16 (poke (start cpu0 []) [(0xFFFF, 0x12), (0x0000, 0x34)]) 0xFFFF = 0x3412 := by decide

theorem test_breakpoint_pauses :
    let t := after ((start cpu0 []).setBreakpoint (some 0xC001))
    t.runState = .paused ∧ t.inBatch = false ∧ t.slotsDone = 1 ∧ t.ring.count = 1 := by decide

theorem test_header :
    romSizeOf 0x54 = 96 * 16384 ∧ romSizeOf 0x02 = 131072 ∧ romSizeOf 0x77 = 32768 ∧ ramSizeOf 0x03 = 32768
    ∧ (decodeHeader (List.replicate 0x150 0x80)).colorFlag = true := by decide

theorem test_trace_line :
    traceText (traceLine State.reset)
      = "A: 01 F: B0 B: 00 C: 13 D: 00 E: D8 H: 01 L: 4D SP: FFFE PC: 00:0100 (00 00 00 00)".toList := by decide

theorem reset_writes_nothing : (referencePostBootIo.foldl (fun m e => Memory.write m e.1.toNat e.2) []) = [] := by decide +kernel

theorem memory_of_writes (l : List (Word × Byte)) (s : State) :
    (l.foldl (fun t e => directWrite t e.1 e.2) s).mem = l.foldl (fun m e => Memory.write m e.1.toNat e.2) s.mem := by
  induction l generalizing s with
  | nil => rfl
  | cons e l ih => rw [List.foldl_cons, List.foldl_cons, ih]; rfl

/-- The reset state is what the reset procedure makes of the power-on state (R500, R501; log 5, 10). -/
theorem test_reset_after_power_on (cpu : Cpu) (lcd : LcdTiming) (timer : TimerState) :
    resetMachine (powerOn referenceConfig [] cpu lcd timer) = State.reset := by
  have h1 : (writePostBoot (powerOn referenceConfig [] cpu lcd timer)).mem = [] :=
    (memory_of_writes referencePostBootIo (powerOn referenceConfig [] cpu lcd timer)).trans reset_writes_nothing
  have h2 : ∀ s : State, s.mem = [] → directWrite s 0xFF44#16 0 = s.setMem [] := by
    intro s h
    unfold directWrite
    rw [h, show Memory.write [] (0xFF44#16).toNat 0 = [] by decide +kernel]
  rw [resetMachine_eq, show (powerOn referenceConfig [] cpu lcd timer).cfg.io.ly = 0xFF44#16 from rfl, h2 _ h1,
    show (powerOn referenceConfig [] cpu lcd timer).cfg.io.tac = 0xFF07#16 from rfl]
  have h3 : ∀ s : State, directRead (s.setMem []) 0xFF07#16 = 0 := fun _ => rfl
  rw [h3]
  rfl

/-- The first step after reset runs the word placed by withFetchWord. -/
theorem test_with_fetch_word :
    (after (State.reset.withFetchWord 8 0x3C)).regA = 0x02 ∧ (after (State.reset.withFetchWord 8 0x3C)).cpu.pc = 0x0101
    ∧ (after (State.reset.withFetchWord 16 0x37CB)).regA = 0x10 := by decide

/-! ### Witnesses: states and operands that meet the hypotheses of each statement -/

/-- The vectors' start state on a NOP. -/
def nopState : State := start cpu0 [0x00]

/-- The same with other parameters. -/
def withCfg (s : State) (c : Config) : State := { s with cfg := c }

theorem witness_encodeOfDecode :
    (decode false [0x3E, 0x12, 0x34]).toOption = some (.ldAN8 0x12, [0x34]) ∧ (decode true [0xFF]).toOption = some (.set7A, [])
    ∧ (decode false [0x08, 0x34, 0x12]).toOption = some (.ldAtN16Sp 0x1234, []) := by decide

theorem witness_stepRuns :
    nopState.inBatch = true ∧ selectedSource (beginIteration nopState) = none
    ∧ (∀ e ∈ nopState.cfg.table, e.1 ≠ tableIndex .nop)
    ∧ (decode false [directRead (beginIteration nopState) 0xC000, 0, 0]).toOption = some (.nop, [0, 0])
    ∧ (∃ t, exec .nop (advancePc (beginIteration nopState) 1) = .next t)
    ∧ (∃ r, exec .undefinedD3 nopState = .fault r) := ⟨rfl, by decide, by decide, by decide, ⟨_, rfl⟩, ⟨_, rfl⟩⟩

theorem witness_stepTakes :
    let s := poke (start { cpu0 with ime := true } []) [(0xFFFF, 0x1F), (0xFF0F, 0x10)]
    s.inBatch = true ∧ selectedSource (beginIteration s) = some 4 := by decide

theorem witness_pop : (R16Stk.bc ≠ .af) ∧ (R16Stk.bc ≠ .de) := by decide

theorem witness_daaAfterAdd : 0 < 100 ∧ 99 < 100 := by decide

theorem witness_laws8 :
    (∃ t u, exec ((AluSource.reg .b).instr .cp) nopState = .next t ∧ exec ((AluSource.reg .b).instr .sub) nopState = .next u)
    ∧ (∃ t u, exec (.addAN8 0xFF) nopState = .next t ∧ exec (.subAN8 0xFF) t = .next u)
    ∧ (∃ t, exec .xorAA nopState = .next t)
    ∧ (∃ t u, exec (formDecR .b) nopState = .next t ∧ exec (formIncR .b) t = .next u) :=
  ⟨⟨_, _, rfl, rfl⟩, ⟨_, _, rfl, rfl⟩, ⟨_, rfl⟩, ⟨_, _, rfl, rfl⟩⟩

theorem witness_calls :
    condHolds .z true false = true ∧ condHolds .nz true false = false ∧ condHolds .c true false = false
    ∧ condHolds .nc true false = true := by decide

theorem witness_halt :
    nopState.cfg.haltPolicy = .nop
    ∧ (let s := withCfg (poke nopState [(0xFFFF, 0x10), (0xFF0F, 0x10)]) { referenceConfig with haltPolicy := .spin }
       s.cfg.haltPolicy = .spin ∧ Requested s 4)
    ∧ (let s := withCfg (poke nopState [(0xFFFF, 0xFF), (0xFF0F, 0xE0)]) { referenceConfig with haltPolicy := .spin }
       s.cfg.haltPolicy = .spin ∧ ¬ ∃ k, k < 5 ∧ Requested s k) := by
  unfold Requested
  refine ⟨rfl, ⟨rfl, by decide⟩, rfl, ?_⟩
  rintro ⟨k, hk, -, h⟩
  rcases (by omega : k = 0 ∨ k = 1 ∨ k = 2 ∨ k = 3 ∨ k = 4) with rfl | rfl | rfl | rfl | rfl <;> revert h <;> decide

theorem witness_defined : isUndefined .nop = false ∧ isUndefined .undefinedD3 = true := by decide

theorem witness_exec_next :
    (∃ t, exec .daa nopState = .next t) ∧ (∃ t, exec .ldAB nopState = .next t) ∧ (∃ t, exec .set7AtHl nopState = .next t)
    ∧ Instr.ldAB ≠ .di ∧ Instr.ldAB ≠ .ei ∧ Instr.ldAB ≠ .reti ∧ Instr.ldAB ≠ .prefixCb
    ∧ (encodeEntry .set7AtHl).prefixed = true ∧ (∃ t, exec .halt nopState = .next t) ∧ nopState.cfg.haltPolicy = .nop :=
  ⟨⟨_, rfl⟩, ⟨_, rfl⟩, ⟨_, rfl⟩, by decide, by decide, by decide, by decide, by decide, ⟨_, rfl⟩, rfl⟩

theorem witness_notWriters : ¬ WritesPc .ldAB ∧ ¬ WritesSp .ldAB := by
  constructor
  · rintro (⟨_, h⟩ | ⟨x, _, h⟩ | h | ⟨_, h⟩ | ⟨x, _, h⟩ | ⟨_, h⟩ | ⟨x, _, h⟩ | h | ⟨x, h⟩ | h | ⟨x, h⟩ | h) <;>
      first
        | cases h
        | (cases x <;> cases h)
  · rintro (⟨_, h⟩ | h | h | h | ⟨_, h⟩ | ⟨x, h⟩ | ⟨x, h⟩ | ⟨_, h⟩ | ⟨x, _, h⟩ | h | ⟨x, h⟩ | h | ⟨x, h⟩) <;>
      first
        | cases h
        | (cases x <;> cases h)

theorem witness_fetchExecute :
    (let s := withCfg nopState (tableWith 0 2 .imm8)
     s.cfg.tableOk = true ∧ (∃ e ∈ s.cfg.table, e.1 = fetchIndex s) ∧ (fetchEntry s).operand1 = .imm8
     ∧ (encodeEntry (fetchEntry s).effect).bytes = [0x3E, 0x00]
     ∧ (∃ t, exec (fetchInstr s) (advancePc s (fetchEntry s).length) = .next t))
    ∧ (let s := start cpu0 [0xC3, 0x34, 0x12]
       (∀ e ∈ s.cfg.table, e.1 ≠ fetchIndex s) ∧ (encodeEntry (fetchEntry s).effect).bytes = [0xC3, 0x00, 0x00]
       ∧ (fetchEntry s).operand1 = .imm16)
    ∧ (encodeEntry (fetchEntry nopState).effect).bytes = [0x00] :=
  ⟨⟨by decide, by decide, by decide, by decide, ⟨_, rfl⟩⟩, by decide, by decide⟩

theorem witness_poll :
    ¬ Polls nopState
    ∧ (let s := start { cpu0 with ime := true } []
       Polls s ∧ (∀ k, k < 5 → ¬ Requested s k))
    ∧ (let s := poke (start { cpu0 with ime := true } []) [(0xFFFF, 0xFF), (0xFF0F, 0x11)]
       Polls s ∧ Requested s 0)
    ∧ (let s := poke (start { cpu0 with ime := true } []) [(0xFFFF, 0xFF), (0xFF0F, 0x10)]
       Polls s ∧ Requested s 4 ∧ (∀ j, j < 4 → ¬ Requested s j)) := by
  unfold Polls Requested
  refine ⟨by decide, ⟨by decide, fun k hk => ?_⟩, by decide, by decide, by decide, fun k hk => ?_⟩
  · rcases (by omega : k = 0 ∨ k = 1 ∨ k = 2 ∨ k = 3 ∨ k = 4) with rfl | rfl | rfl | rfl | rfl <;> decide
  · rcases (by omega : k = 0 ∨ k = 1 ∨ k = 2 ∨ k = 3) with rfl | rfl | rfl | rfl <;> decide

theorem witness_io : nopState.cfg.ioOk = true ∧ 0xC000#16 ≠ nopState.cfg.io.joyp ∧ 0xC000#16 ≠ nopState.cfg.io.div
    ∧ 0xC000#16 ≠ nopState.cfg.io.tima ∧ 0xC000#16 ≠ nopState.cfg.io.ifReg ∧ 0xC000#16 ≠ nopState.cfg.io.stat
    ∧ 0xC000#16 ≠ nopState.cfg.io.ly := by decide

theorem witness_timerBudgets : nopState.timer.ok ∧ nopState.timer.clocksTillDivInc ≤ 256 := by
  unfold TimerState.ok; decide

theorem witness_ppuOn :
    let s := (poke nopState [(0xFF40, 0x91)]).setLcd ⟨455, 153⟩
    s.cfg.ioOk = true ∧ s.lcd.ok ∧ (directRead s s.cfg.io.lcdc).getLsbD 7 = true := by unfold LcdTiming.ok; decide

theorem witness_ppuOff : (directRead nopState nopState.cfg.io.lcdc).getLsbD 7 = false := by decide

theorem witness_renderedLine : 143 < 144 ∧ 159 < 160 ∧ 2 < 3 ∧ 0 / 480 ≠ 143 := by decide

theorem witness_mediatedWrite :
    (0x7FFF#16).toNat ≤ 0x7FFF ∧ 159 < 160 ∧ ((0xFDFF#16).toNat < 0xFE00 ∨ 0xFE9F < (0xFDFF#16).toNat)
    ∧ ((0xFEA0#16).toNat < 0xFE00 ∨ 0xFE9F < (0xFEA0#16).toNat) ∧ 0xFF05#16 ≠ 0xFF04#16
    ∧ (0x7FFF < (0x8000#16).toNat ∧ 0x8000#16 ≠ 0xFF46#16 ∧ 0x8000#16 ≠ 0xFF04#16 ∧ 0x8000#16 ≠ 0xFF01#16)
    ∧ (0x7FFF < (0xFFFF#16).toNat ∧ 0xFFFF#16 ≠ 0xFF46#16 ∧ 0xFFFF#16 ≠ 0xFF04#16 ∧ 0xFFFF#16 ≠ 0xFF01#16) := by decide

theorem witness_wordAccess :
    0x7FFF < (0x8000#16).toNat ∧ 0x7FFF < (0x8000#16 + 1).toNat ∧ 0x8000#16 ≠ 0xFF46#16 ∧ 0x8000#16 ≠ 0xFF04#16
    ∧ 0x8000#16 ≠ 0xFF01#16 ∧ 0x8000#16 + 1 ≠ 0xFF46#16 ∧ 0x8000#16 + 1 ≠ 0xFF04#16 ∧ 0x8000#16 + 1 ≠ 0xFF01#16 := by decide

theorem witness_reset :
    (nopState.cfg.postBootIo.map Prod.fst).Nodup ∧ (∃ e ∈ nopState.cfg.postBootIo, e.1 ≠ nopState.cfg.io.ly)
    ∧ nopState.cfg.postBootIo = referencePostBootIo ∧ nopState.cfg.io = referenceIoAddr
    ∧ (0xC000#16 : Word) ≠ nopState.cfg.io.ly ∧ (∀ e ∈ nopState.cfg.postBootIo, e.1 ≠ 0xC000#16) :=
  ⟨referencePostBootIo_nodup, ⟨(0xFF05, 0x00), by decide, by decide⟩, rfl, rfl, by decide,
   show ∀ e ∈ referencePostBootIo, e.1 ≠ 0xC000#16 by simp [referencePostBootIo]⟩

theorem witness_cartridge :
    let rom : List Byte := List.replicate 0x150 0x02
    rom[0x148]? = some 0x02 ∧ rom[0x149]? = some 0x02 ∧ rom[0x147]? = some 0x02 ∧ rom[0x143]? = some 0x02
    ∧ rom[0x134 + 10]? = some 0x02 := by
  refine ⟨?_, ?_, ?_, ?_, ?_⟩ <;> rw [List.getElem?_replicate, if_pos (by decide)]

theorem witness_cartridge_addresses :
    (∀ e ∈ nopState.cfg.postBootIo, 0x7FFF < e.1.toNat) ∧ 0x7FFF < nopState.cfg.io.ly.toNat ∧ 0x7FFF < (0x8000#16).toNat :=
  ⟨show ∀ e ∈ referencePostBootIo, 0x7FFF < e.1.toNat by simp [referencePostBootIo], by decide, by decide⟩

theorem witness_saveState :
    nopState.ring.slots.length = nopState.cfg.saveCapacity ∧ 1 ≤ nopState.cfg.saveCapacity ∧ nopState.ring.count = 0
    ∧ nopState.cfg = (start { cpu0 with af := 0x1200 } []).cfg ∧ 1 ≠ nopState.ring.cursor % nopState.cfg.saveCapacity := by decide

theorem witness_pops :
    (∀ (i : Nat) (x : State), (x.setPc (BitVec.ofNat 16 i)).ring = x.ring ∧ (x.setPc (BitVec.ofNat 16 i)).cfg = x.cfg)
    ∧ nopState.ring.slots.length = nopState.cfg.saveCapacity ∧ nopState.ring.count ≤ nopState.cfg.saveCapacity
    ∧ nopState.ring.count ≤ nopState.ring.cursor ∧ 1 ≤ 8 ∧ 8 ≤ 9 ∧ 8 ≤ nopState.cfg.saveCapacity :=
  ⟨fun _ _ => ⟨rfl, rfl⟩, by decide, by decide, by decide, by decide, by decide, by decide⟩

theorem witness_batches :
    (State.reset.inBatch = false ∧ State.reset.hostScript = [] ∧ State.reset.runState = .paused)
    ∧ (let s := State.reset.setRunState .step
       s.inBatch = false ∧ s.hostScript = [] ∧ 0 < batchBudget s)
    ∧ (∃ t, iteration nopState = .next t ∧ t.slotsDone < batchBudget t)
    ∧ (∃ t, iteration (nopState.setRunState .step) = .next t ∧ batchBudget t ≤ t.slotsDone) :=
  ⟨by decide, by decide, ⟨_, rfl, by decide⟩, ⟨_, rfl, by decide⟩⟩

theorem witness_hostActions :
    (let s := State.reset.setHostScript [[.popSaveState, .requestReset], [.setRunState .running]]
     s.inBatch = false ∧ s.hostScript = [.popSaveState, .requestReset] :: [[.setRunState .running]]
     ∧ batchBudget (hostBoundary s) = 0)
    ∧ (let s := State.reset.setHostScript [[.setRunState .step, .setBreakpoint (some 0x0150)]]
       s.inBatch = false ∧ s.hostScript = [.setRunState .step, .setBreakpoint (some 0x0150)] :: []
       ∧ 0 < batchBudget (hostBoundary s)) := ⟨⟨rfl, rfl, rfl⟩, rfl, rfl, by decide⟩

theorem witness_breakpoints :
    (∃ t, iteration nopState = .next t) ∧ nopState.cfg.breakOpcodes = [] ∧ nopState.cpu.prefixOp = false
    ∧ selectedSource (beginIteration nopState) = none
    ∧ (let s := start { cpu0 with prefixOp := true } [0x37]
       (∃ t, iteration s = .next t) ∧ s.cpu.prefixOp = true ∧ s.cfg.table = [])
    ∧ (let s := poke (start { cpu0 with ime := true } []) [(0xFFFF, 0x1F), (0xFF0F, 0x10)]
       (∃ t, iteration s = .next t) ∧ selectedSource (beginIteration s) ≠ none) :=
  ⟨⟨_, rfl⟩, rfl, rfl, by decide, ⟨⟨_, rfl⟩, rfl, rfl⟩, ⟨_, rfl⟩, by decide⟩

theorem witness_trace :
    (let s := withCfg nopState { referenceConfig with traceEnabled := true }
     s.cfg.traceEnabled = true ∧ s.cpu.prefixOp = false)
    ∧ nopState.cfg.traceEnabled = false := by decide

theorem witness_invariant :
    GoodState (State.reset.setRunState .step) ∧ (∃ t, step (State.reset.setRunState .step) = .next t) := by
  refine ⟨⟨⟨Memory.wf_nil, ?_, ⟨?_, ?_⟩, ⟨?_, ?_⟩, ⟨List.Pairwise.nil, fun e h => (by cases h)⟩, rfl⟩,
    ⟨by decide, rfl, by decide, Nat.le_refl _, fun j hj => (by cases hj), fun x hx => ?_⟩, by decide, fun h => (by cases h)⟩, ⟨_, rfl⟩⟩
  · unfold Cpu.flagsOk; decide
  · show 0 < 456; decide
  · show 0 < 154; decide
  · show (0 : Int) ≤ 256; decide
  · show (0 : Int) ≤ 1024; decide
  · have h : some x ∈ List.replicate 8 none := hx
    simp at h

theorem witness_inBatch :
    nopState.inBatch = true ∧ nopState.cfg.ioOk = true ∧ (∃ t, step nopState = .next t) ∧ (0x7FFF#16).toNat ≤ 0x7FFF
    ∧ (let s := start cpu0 [0xFD]
       s.inBatch = true ∧ (∃ r, step s = .fault r) ∧ selectedSource (beginIteration s) = none
       ∧ isUndefined (fetchInstr (beginIteration s)) = true
       ∧ (∀ e ∈ s.cfg.table, e.1 ≠ fetchIndex (beginIteration s))) :=
  ⟨rfl, by decide, ⟨_, rfl⟩, by decide, rfl, ⟨_, rfl⟩, by decide, by decide, by decide⟩

end Sys2Proof.Tests
end

namespace Sys2Proof.Machine

/-- R453's limit: `spritesOnLine` selects by `List.take 10`, and selects nothing where LCDC bit 1 turns sprites off. -/
theorem spritesOnLine_length_le (s : State) (lcdc : Byte) (y : Nat) : (spritesOnLine s lcdc y).length ≤ 10 := by
  unfold spritesOnLine
  split
  · exact List.length_take_le 10 _
  · exact Nat.zero_le 10

/-- Settles O45: the selection's limit of ten holds for every memory, LCDC value and line (R11, R453). -/
theorem atMostTenSpritesOnALine : Obligations.AtMostTenSpritesOnALine :=
  spritesOnLine_length_le

end Sys2Proof.Machine

namespace Sys2Proof.Machine

/-! ### The batch and the frame boundary (40_cpu_engine.md R172 to R176) -/

theorem batchIteration_cases {s t : State} (h : batchIteration s = .next t) :
    ∃ u, iteration s = .next u ∧ ((batchEnds u = true ∧ t = endFrame u) ∨ (batchEnds u = false ∧ t = u)) := by
  unfold batchIteration at h
  split at h
  · next u hu =>
    refine ⟨u, hu, ?_⟩
    obtain rfl := next_inj h
    cases hb : batchEnds u with
    | true => exact .inl ⟨rfl, rfl⟩
    | false => exact .inr ⟨rfl, rfl⟩
  · cases h
  · cases h

/-- What a step is: an iteration of the open batch, a frame whose budget is 0, or the first iteration of a new batch (log 1). -/
theorem step_cases {s t : State} (h : step s = .next t) :
    (s.inBatch = true ∧ batchIteration s = .next t)
    ∨ (s.inBatch = false ∧ batchBudget (hostBoundary s) = 0 ∧ t = hostBoundary s)
    ∨ (s.inBatch = false ∧ batchIteration (beginBatch (hostBoundary s)) = .next t) := by
  unfold step transition at h
  cases hb : s.inBatch with
  | true => rw [if_pos hb] at h; exact .inl ⟨rfl, h⟩
  | false =>
    rw [if_neg (by simp [hb])] at h
    dsimp only at h
    split at h
    · next hz => exact .inr (.inl ⟨rfl, hz, (next_inj h).symm⟩)
    · exact .inr (.inr ⟨rfl, h⟩)

/-- An open batch has slots left. -/
theorem slotsDone_lt_of_not_batchEnds {s : State} (h : batchEnds s = false) : s.slotsDone < batchBudget s := by
  simp only [batchEnds, Bool.or_eq_false_iff, decide_eq_false_iff_not] at h
  exact Nat.lt_of_not_le h.2

/-- The end of a frame changes the run-state, the ring and the batch flag only (R174, R175). -/
theorem endFrame_frame (s : State) :
    ((s.setRunState (endFrame s).runState).setRing (endFrame s).ring).setInBatch false = endFrame s := by
  unfold endFrame
  dsimp only
  split <;> split <;> rfl

@[simp] theorem endFrame_inBatch (s : State) : (endFrame s).inBatch = false := rfl

/-- A frame's end leaves the ring, or pushes a snapshot of the machine's parts onto it (R175). -/
theorem endFrame_ring (s : State) : (endFrame s).ring = s.ring ∨ (endFrame s).ring = (pushSaveState s).ring := by
  unfold endFrame
  dsimp only
  split <;> split
  · exact .inr rfl
  · exact .inl rfl
  · exact .inr rfl
  · exact .inl rfl

/-! ### The invariant between frames -/

/-- `GoodState` without its clause on the slots of a batch: what the host's actions keep while no batch is open. -/
structure GoodParts (s : State) : Prop where
  parts : PartsOk s.cfg.io s.cpu s.mem s.lcd s.timer s.framebuffer
  ring : s.ring.ok s.cfg.saveCapacity s.cfg.io
  config : s.cfg.wellFormed = true

theorem GoodState.goodParts {s : State} (h : GoodState s) : GoodParts s := ⟨h.parts, h.ring, h.config⟩

theorem GoodParts.goodState {s : State} (h : GoodParts s) (hb : s.inBatch = true → s.slotsDone < batchBudget s) :
    GoodState s := ⟨h.parts, h.ring, h.config, hb⟩

theorem GoodParts.iteration {s t : State} (h : GoodParts s) (hi : iteration s = .next t) : GoodParts t := by
  have hf := (iteration_keeps s hi).frame
  have hp := iteration_parts s hi h.parts
  refine ⟨?_, ?_, ?_⟩
  · rw [hf.cfg]; exact hp
  · rw [hf.ring, hf.cfg]; exact h.ring
  · rw [hf.cfg]; exact h.config

theorem GoodParts.endFrame {s : State} (h : GoodParts s) : GoodParts (endFrame s) := by
  have hr : (Machine.endFrame s).ring.ok s.cfg.saveCapacity s.cfg.io := by
    rcases endFrame_ring s with e | e <;> rw [e]
    · exact h.ring
    · exact ringOk_pushSaveState s h.ring h.parts
  rw [← endFrame_frame]
  exact ⟨h.parts, hr, h.config⟩

theorem GoodParts.resetMachine {s : State} (h : GoodParts s) : GoodParts (resetMachine s) := by
  have hp := resetMachine_parts s h.parts.memoryOk h.parts.framebufferOk
  rw [resetMachine_eq] at hp ⊢
  exact ⟨hp, h.ring, h.config⟩

theorem resetMachine_inBatch (s : State) : (resetMachine s).inBatch = s.inBatch := by rw [resetMachine_eq]; rfl

/-- A load is a reset of the machine with the ROM's bytes in memory; the bytes keep all but LY's mirror, which the reset restores. -/
theorem GoodParts.loadCartridge {s : State} (h : GoodParts s) (rom : List Byte) : GoodParts (loadCartridge s rom) := by
  have hw := wf_writeBytes (s.setCart (some (decodeHeader rom))) 0 (rom.take 0x8000) h.parts.memoryOk
  unfold Machine.loadCartridge
  rw [← writeBytes_frame]
  generalize (writeBytes (s.setCart (some (decodeHeader rom))) 0 (rom.take 0x8000)).mem = m at hw ⊢
  have hp := resetMachine_parts ((s.setCart (some (decodeHeader rom))).setMem m) hw h.parts.framebufferOk
  rw [resetMachine_eq] at hp ⊢
  exact ⟨hp, h.ring, h.config⟩

theorem loadCartridge_inBatch (s : State) (rom : List Byte) : (loadCartridge s rom).inBatch = s.inBatch := by
  unfold loadCartridge
  rw [resetMachine_inBatch, ← writeBytes_frame]; rfl

theorem popSaveState_cfg (s : State) : (popSaveState s).cfg = s.cfg := by unfold popSaveState; split <;> rfl
theorem popSaveState_inBatch (s : State) : (popSaveState s).inBatch = s.inBatch := by unfold popSaveState; split <;> rfl

theorem GoodParts.popSaveState {s : State} (h : GoodParts s) : GoodParts (popSaveState s) := by
  obtain ⟨hr, hp⟩ := popSaveState_ok s h.ring h.parts
  rw [← popSaveState_cfg s] at hr hp
  exact ⟨hp, hr, by rw [popSaveState_cfg]; exact h.config⟩

/-- Every action of the host keeps the invariant (R176, R472, R501, R507). -/
theorem GoodParts.hostAct {s : State} (h : GoodParts s) (a : HostAction) : GoodParts (hostAct s a) := by
  cases a with
  | setJoypad => exact ⟨h.parts, h.ring, h.config⟩
  | setRunState => exact ⟨h.parts, h.ring, h.config⟩
  | setBreakpoint => exact ⟨h.parts, h.ring, h.config⟩
  | popSaveState => exact h.popSaveState
  | requestReset => exact h.resetMachine
  | loadCartridge rom => exact h.loadCartridge rom

theorem hostAct_inBatch (s : State) (a : HostAction) : (hostAct s a).inBatch = s.inBatch := by
  cases a with
  | setJoypad => rfl
  | setRunState => rfl
  | setBreakpoint => rfl
  | popSaveState => exact popSaveState_inBatch s
  | requestReset => exact resetMachine_inBatch s
  | loadCartridge rom => exact loadCartridge_inBatch s rom

/-- What the host script's head and every action keep, the frame boundary keeps. -/
theorem hostBoundary_induction {P : State → Prop} {s : State} (h : P s) (hscript : ∀ v, P (s.setHostScript v))
    (hact : ∀ t a, P t → P (hostAct t a)) : P (hostBoundary s) := by
  unfold hostBoundary
  split
  · exact h
  · next acts rest _ => exact List.foldlRecOn acts hostAct (hscript rest) fun t ht a _ => hact t a ht

theorem GoodParts.hostBoundary {s : State} (h : GoodParts s) : GoodParts (hostBoundary s) :=
  hostBoundary_induction h (fun _ => ⟨h.parts, h.ring, h.config⟩) fun _ a ht => ht.hostAct a

theorem hostBoundary_inBatch (s : State) : (hostBoundary s).inBatch = s.inBatch :=
  hostBoundary_induction (P := fun t => t.inBatch = s.inBatch) rfl (fun _ => rfl)
    fun t a ht => (hostAct_inBatch t a).trans ht

theorem GoodParts.beginBatch {s : State} (h : GoodParts s) : GoodParts (beginBatch s) := ⟨h.parts, h.ring, h.config⟩

/-- An iteration of a batch leaves the invariant whole: either slots remain, or the batch is closed. -/
theorem GoodParts.batchIteration {s t : State} (h : GoodParts s) (hs : batchIteration s = .next t) : GoodState t := by
  obtain ⟨u, hu, ⟨-, rfl⟩ | ⟨hopen, rfl⟩⟩ := batchIteration_cases hs
  · exact (h.iteration hu).endFrame.goodState (by simp)
  · exact (h.iteration hu).goodState fun _ => slotsDone_lt_of_not_batchEnds hopen

/-- Settles O57: an iteration keeps the parts a snapshot copies and leaves the ring; a frame's end pushes good parts; each host
action keeps the rest of the invariant while no batch is open. -/
theorem everyStepKeepsTheInvariant : Obligations.EveryStepKeepsTheInvariant := by
  intro s t hs hstep
  rcases step_cases hstep with ⟨-, hi⟩ | ⟨hclosed, -, rfl⟩ | ⟨-, hi⟩
  · exact hs.goodParts.batchIteration hi
  · refine hs.goodParts.hostBoundary.goodState fun hopen => ?_
    rw [hostBoundary_inBatch, hclosed] at hopen
    cases hopen
  · exact hs.goodParts.hostBoundary.beginBatch.batchIteration hi

/-! ### ROM inside a batch -/

theorem directRead_endFrame (s : State) (x : Word) : directRead (endFrame s) x = directRead s x := by
  rw [← endFrame_frame]; rfl

/-- Settles O59: no part of an iteration writes ROM (`iteration_keeps`), and a frame's end writes no memory. -/
theorem noStepInABatchChangesRom : Obligations.NoStepInABatchChangesRom := by
  intro s t hio hopen hstep a ha
  rcases step_cases hstep with ⟨-, hi⟩ | ⟨hclosed, -, -⟩ | ⟨hclosed, -⟩
  · obtain ⟨u, hu, hend⟩ := batchIteration_cases hi
    have hrom := (iteration_keeps s hu).rom hio a ha
    rcases hend with ⟨-, rfl⟩ | ⟨-, rfl⟩
    · rw [directRead_endFrame, hrom]
    · exact hrom
  · rw [hopen] at hclosed; cases hclosed
  · rw [hopen] at hclosed; cases hclosed

/-! ### The writers of IME, PREFIX, PC and SP (10_state.md R32, R36, R37) -/

theorem SameControl.refl (s : State) : SameControl s s := ⟨rfl, rfl, rfl, rfl⟩

theorem SameControl.trans {s t u : State} (h : SameControl s t) (k : SameControl t u) : SameControl s u := by
  obtain ⟨hsp, hpc, hime, hpre⟩ := h
  obtain ⟨ksp, kpc, kime, kpre⟩ := k
  exact ⟨ksp.trans hsp, kpc.trans hpc, kime.trans hime, kpre.trans hpre⟩

theorem SameControl.of_cpu {s t : State} (h : t.cpu = s.cpu) : SameControl s t := by
  unfold SameControl; rw [h]; exact ⟨rfl, rfl, rfl, rfl⟩

theorem State.sameControl_setHl (s : State) (v : Word) : SameControl s (s.setHl v) := ⟨rfl, rfl, rfl, rfl⟩
theorem sameControl_memWrite (s : State) (a : Word) (v : Byte) : SameControl s (memWrite s a v) := .of_cpu (memWrite_cpu s a v)
theorem sameControl_memWrite16 (s : State) (a v : Word) : SameControl s (memWrite16 s a v) := .of_cpu (memWrite16_cpu s a v)

/-- `t` is `s` after the effect of `i`, as far as the control registers go: each is as before unless `i` is among its writers. -/
structure ControlFrame (i : Instr) (s t : State) : Prop where
  ime : i ≠ .di ∧ i ≠ .ei ∧ i ≠ .reti → t.cpu.ime = s.cpu.ime
  prefixOp : i ≠ .prefixCb → t.cpu.prefixOp = s.cpu.prefixOp
  pc : ¬ WritesPc i → t.cpu.pc = s.cpu.pc
  sp : ¬ WritesSp i → t.cpu.sp = s.cpu.sp

/-- The outcome of an effect is a state in the control frame of its instruction, or a fault. -/
inductive ControlResult (i : Instr) (s : State) : Result → Prop where
  | done (t : State) (h : ControlFrame i s t) : ControlResult i s (.next t)
  | stuck (r : Fault) : ControlResult i s (.fault r)

section
variable {i : Instr} {s t : State}

theorem ControlResult.same (h : SameControl s t) : ControlResult i s (.next t) := by
  obtain ⟨hsp, hpc, hime, hpre⟩ := h
  exact .done t ⟨fun _ => hime, fun _ => hpre, fun _ => hpc, fun _ => hsp⟩

theorem ControlResult.writesPc (hi : WritesPc i) (hsp : t.cpu.sp = s.cpu.sp) (hime : t.cpu.ime = s.cpu.ime)
    (hpre : t.cpu.prefixOp = s.cpu.prefixOp) : ControlResult i s (.next t) :=
  .done t ⟨fun _ => hime, fun _ => hpre, absurd hi, fun _ => hsp⟩

theorem ControlResult.writesSp (hi : WritesSp i) (hpc : t.cpu.pc = s.cpu.pc) (hime : t.cpu.ime = s.cpu.ime)
    (hpre : t.cpu.prefixOp = s.cpu.prefixOp) : ControlResult i s (.next t) :=
  .done t ⟨fun _ => hime, fun _ => hpre, fun _ => hpc, absurd hi⟩

theorem ControlResult.writesPcSp (hpc : WritesPc i) (hsp : WritesSp i) (hime : t.cpu.ime = s.cpu.ime)
    (hpre : t.cpu.prefixOp = s.cpu.prefixOp) : ControlResult i s (.next t) :=
  .done t ⟨fun _ => hime, fun _ => hpre, absurd hpc, absurd hsp⟩

theorem setFlagsAfterR8_control (s : State) (r : R8) (v : Byte) (g : Flags) :
    ControlResult i s (.next ((s.setR8 r v).setFlags g)) :=
  .same ((s.sameControl_setR8 r v).trans (State.sameControl_setFlags _ g))

theorem setFlagsAfterWrite_control (s : State) (a : Word) (v : Byte) (g : Flags) :
    ControlResult i s (.next ((memWrite s a v).setFlags g)) :=
  .same ((sameControl_memWrite s a v).trans (State.sameControl_setFlags _ g))

theorem aluOn_control (op : AluOp) (b : Byte) (s : State) : ControlResult i s (aluOn op b s) := by
  cases op
  case cp => exact .same (s.sameControl_setFlags _)
  all_goals exact setFlagsAfterR8_control s _ _ _

theorem onCond_control (cc : Cond) (f : State → Result) (s : State) (h : ControlResult i s (f s)) :
    ControlResult i s (onCond cc f s) := by
  unfold onCond
  split
  · exact h
  · exact .same (.refl s)

theorem jump_control (hi : WritesPc i) (v : Word) (s : State) : ControlResult i s (jumpTo v s) := .writesPc hi rfl rfl rfl

theorem callTo_control (hpc : WritesPc i) (hsp : WritesSp i) (v : Word) (s : State) : ControlResult i s (callTo v s) := by
  refine .writesPcSp hpc hsp ?_ ?_
  · rw [State.setPc_cpu_ime, push16_cpu]
  · rw [State.setPc_cpu_prefixOp, push16_cpu]

theorem returnNow_control (hpc : WritesPc i) (hsp : WritesSp i) (s : State) : ControlResult i s (returnNow s) :=
  .writesPcSp hpc hsp rfl rfl

theorem haltBy_control (hi : WritesPc i) (p : HaltPolicy) (s : State) : ControlResult i s (haltBy p s) := by
  cases p with
  | nop => exact .same (.refl s)
  | spin =>
    unfold haltBy
    dsimp only
    split
    · exact .writesPc hi rfl rfl rfl
    · exact .same (.refl s)

theorem setR16_control (r : R16) (v : Word) (s : State) (hi : r = .sp → WritesSp i) :
    ControlResult i s (.next (s.setR16 r v)) := by
  cases r
  case sp => exact .writesSp (hi rfl) rfl rfl rfl
  all_goals exact .same ⟨rfl, rfl, rfl, rfl⟩

end

/-- Every effect stays in the control frame of its instruction, shape by shape. -/
theorem exec_control (i : Instr) (s : State) : ControlResult i s (exec i s) := by
  obtain ⟨k, rfl⟩ := exists_shape i
  cases k <;> simp only [Shape.instr]
  case ldRR => rw [exec_formLdRR]; exact .same (s.sameControl_setR8 _ _)
  case ldRN8 => rw [exec_formLdRN8]; exact .same (s.sameControl_setR8 _ _)
  case ldRAtHl => rw [exec_formLdRAtHl]; exact .same (s.sameControl_setR8 _ _)
  case ldAAtBc | ldAAtDe | ldAAtN16 | ldhAAtC | ldhAAtN8 => exact .same (s.sameControl_setR8 _ _)
  case ldAtHlR => rw [exec_formLdAtHlR]; exact .same (sameControl_memWrite s _ _)
  case ldAtHlN8 | ldAtBcA | ldAtDeA | ldAtN16A | ldhAtCA | ldhAtN8A => exact .same (sameControl_memWrite s _ _)
  case ldAAtHlInc | ldAAtHlDec => exact .same ((s.sameControl_setR8 _ _).trans (State.sameControl_setHl _ _))
  case ldAtHlIncA | ldAtHlDecA => exact .same ((sameControl_memWrite s _ _).trans (State.sameControl_setHl _ _))
  case ldRrN16 dst n => rw [exec_formLdRrN16]; exact setR16_control dst n s fun h => .inl ⟨n, by rw [h]; rfl⟩
  case ldAtN16Sp => exact .same (sameControl_memWrite16 s _ _)
  case ldSpHl => exact .writesSp (by simp [WritesSp]) rfl rfl rfl
  case pop rr =>
    rw [exec_formPop]
    refine .writesSp (by simp [WritesSp]) ?_ ?_ ?_ <;> simp [popState]
  case push rr =>
    rw [exec_formPush]
    refine .writesSp (by simp [WritesSp]) ?_ ?_ ?_ <;> rw [push16_cpu]
  case aluR => rw [exec_formAluR]; exact aluOn_control _ _ s
  case aluAtHl => rw [exec_formAluAtHl]; exact aluOn_control _ _ s
  case aluN8 => rw [exec_formAluN8]; exact aluOn_control _ _ s
  case incR => rw [exec_formIncR]; exact setFlagsAfterR8_control s _ _ _
  case decR => rw [exec_formDecR]; exact setFlagsAfterR8_control s _ _ _
  case incAtHl | decAtHl => exact setFlagsAfterWrite_control s _ _ _
  case daa | cpl | rlca | rrca | rla | rra => exact setFlagsAfterR8_control s _ _ _
  case scf | ccf => exact .same (s.sameControl_setFlags _)
  case incRr rr =>
    rw [exec_formIncRr]; exact setR16_control rr _ s fun h => by simp [WritesSp, h, formIncRr]
  case decRr rr =>
    rw [exec_formDecRr]; exact setR16_control rr _ s fun h => by simp [WritesSp, h, formDecRr]
  case addHlRr => rw [exec_formAddHlRr]; exact .same ((s.sameControl_setHl _).trans (State.sameControl_setFlags _ _))
  case addSpE8 => exact .writesSp (by simp [WritesSp]) rfl rfl rfl
  case ldHlSpE8 => exact .same ((s.sameControl_setHl _).trans (State.sameControl_setFlags _ _))
  case shiftR => rw [exec_formShiftR]; exact setFlagsAfterR8_control s _ _ _
  case shiftAtHl => rw [exec_formShiftAtHl]; exact setFlagsAfterWrite_control s _ _ _
  case bitR => rw [exec_formBitR]; exact .same (s.sameControl_setFlags _)
  case bitAtHl => rw [exec_formBitAtHl]; exact .same (s.sameControl_setFlags _)
  case resR => rw [exec_formResR]; exact .same (s.sameControl_setR8 _ _)
  case resAtHl => rw [exec_formResAtHl]; exact .same (sameControl_memWrite s _ _)
  case setR => rw [exec_formSetR]; exact .same (s.sameControl_setR8 _ _)
  case setAtHl => rw [exec_formSetAtHl]; exact .same (sameControl_memWrite s _ _)
  case jpN16 | jpHl | jrE8 => exact .writesPc (by simp [WritesPc]) rfl rfl rfl
  case jpCc => rw [exec_formJpCc]; exact onCond_control _ _ s (jump_control (by simp [WritesPc]) _ s)
  case jrCc => rw [exec_formJrCc]; exact onCond_control _ _ s (jump_control (by simp [WritesPc]) _ s)
  case callN16 => exact callTo_control (by simp [WritesPc]) (by simp [WritesSp]) _ s
  case callCc =>
    rw [exec_formCallCc]; exact onCond_control _ _ s (callTo_control (by simp [WritesPc]) (by simp [WritesSp]) _ s)
  case ret => exact returnNow_control (by simp [WritesPc]) (by simp [WritesSp]) s
  case retCc =>
    rw [exec_formRetCc]; exact onCond_control _ _ s (returnNow_control (by simp [WritesPc]) (by simp [WritesSp]) s)
  case reti => exact .done _ ⟨by simp, fun _ => rfl, absurd (by simp [WritesPc]), absurd (by simp [WritesSp])⟩
  case rst => rw [exec_formRst]; exact callTo_control (by simp [WritesPc]) (by simp [WritesSp]) _ s
  case halt => exact haltBy_control (by simp [WritesPc]) _ s
  case nop | stop => exact .same (.refl s)
  case di | ei => exact .done _ ⟨by simp, fun _ => rfl, fun _ => rfl, fun _ => rfl⟩
  case prefixCb => exact .done _ ⟨fun _ => rfl, by simp, fun _ => rfl, fun _ => rfl⟩
  all_goals exact .stuck _

theorem exec_controlFrame {i : Instr} {s t : State} (h : exec i s = .next t) : ControlFrame i s t := by
  have k := exec_control i s
  rw [h] at k
  cases k with
  | done _ k => exact k

/-- HALT under the policy `nop` has no effect (R341). -/
theorem exec_halt_nop {s t : State} (hp : s.cfg.haltPolicy = .nop) (h : exec .halt s = .next t) : t = s := by
  have e : exec .halt s = haltBy s.cfg.haltPolicy s := rfl
  rw [e, hp] at h
  exact (next_inj h).symm

/-- No writer of PC is a prefixed entry (R317). -/
theorem unprefixed_of_writesPc {i : Instr} (h : WritesPc i) : (encodeEntry i).prefixed = false := by
  rcases h with ⟨n, rfl⟩ | ⟨cc, n, rfl⟩ | rfl | ⟨e, rfl⟩ | ⟨cc, e, rfl⟩ | ⟨n, rfl⟩ | ⟨cc, n, rfl⟩ | rfl | ⟨cc, rfl⟩ | rfl
    | ⟨k, rfl⟩ | rfl
  · rfl
  · cases cc <;> rfl
  · rfl
  · rfl
  · cases cc <;> rfl
  · rfl
  · cases cc <;> rfl
  · rfl
  · cases cc <;> rfl
  · rfl
  · cases k <;> rfl
  · rfl

/-- No writer of SP is a prefixed entry (R317). -/
theorem unprefixed_of_writesSp {i : Instr} (h : WritesSp i) : (encodeEntry i).prefixed = false := by
  rcases h with ⟨n, rfl⟩ | rfl | rfl | rfl | ⟨e, rfl⟩ | ⟨rr, rfl⟩ | ⟨rr, rfl⟩ | ⟨n, rfl⟩ | ⟨cc, n, rfl⟩ | rfl | ⟨cc, rfl⟩ | rfl
    | ⟨k, rfl⟩
  · rfl
  · rfl
  · rfl
  · rfl
  · rfl
  · cases rr <;> rfl
  · cases rr <;> rfl
  · rfl
  · cases cc <;> rfl
  · rfl
  · cases cc <;> rfl
  · rfl
  · cases k <;> rfl

/-- The row of a prefixed entry has length 1 and one cycle count (R317): it is a prefixed row by definition, and the other rows'
entries are not prefixed. -/
theorem descriptor_of_prefixed {i : Instr} (h : (encodeEntry i).prefixed = true) :
    descriptor i = cbEntry (descriptor i).mcycles (descriptor i).fullMcycles (descriptor i).flags := by
  cases i <;> first | rfl | exact absurd h Bool.false_ne_true

/-- Settles O37: every effect stays in its control frame, and a prefixed entry is no writer of PC or SP (R32, R317). -/
theorem controlRegistersHaveFewWriters : Obligations.ControlRegistersHaveFewWriters := by
  intro i s t h
  obtain ⟨hime, hpre, hpc, hsp⟩ := exec_controlFrame h
  refine ⟨hime, hpre, hpc, ?_, hsp, fun hcb => ?_⟩
  · rintro rfl hp
    rw [exec_halt_nop hp h]
  · have hrow := descriptor_of_prefixed hcb
    refine ⟨hpc fun hw => ?_, hsp fun hw => ?_, by rw [hrow]; rfl, by rw [hrow]; rfl⟩
    · rw [unprefixed_of_writesPc hw] at hcb; cases hcb
    · rw [unprefixed_of_writesSp hw] at hcb; cases hcb

/-! ### The timer budgets (R42) -/

/-- A DIV budget within one period stays within it: what is left is less, or is re-armed from at most 0 (R411). -/
theorem divLeft_le (s : State) (c : Nat) (h : s.timer.clocksTillDivInc ≤ 256) : divLeft s c ≤ 256 := by
  unfold divLeft rearm divPeriod
  split <;> omega

/-- Settles O41: re-arming clamps a budget at 0 and adds at most one DIV period to a budget that is used up (R411, R413). -/
theorem timerBudgetsStayInRange : Obligations.TimerBudgetsStayInRange := by
  intro s c hok
  refine ⟨timerOk_timerAdvance s c hok, fun hdiv => ?_⟩
  have hle := divLeft_le s c hdiv
  rwa [timerAdvance, timaAdvance_timer, divAdvance_timer]

/-! ### The state after reset (R70, R71) -/

/-- An address of the reset list for which memory has no cell reads as its post-boot byte (R502; log 5). -/
theorem unlisted_referencePostBootIo : ∀ e ∈ referencePostBootIo, Memory.unlisted e.1.toNat = e.2 := by
  intro e he
  fin_cases he <;> rfl

/-- Settles O50: the registers are read off the reset state, the post-boot bytes off the unlisted addresses of its empty memory. -/
theorem resetStateValues : Obligations.ResetStateValues :=
  ⟨rfl, rfl, rfl, rfl, rfl, rfl, rfl, rfl, rfl, unlisted_referencePostBootIo, by decide⟩

/-- A ring of slots none of which was pushed is good (R473). -/
theorem ringOk_empty {k : Nat} (hk : 1 ≤ k) (io : IoAddr) : SaveRing.ok ⟨List.replicate k none, 0, 0⟩ k io where
  capacity := hk
  size := List.length_replicate
  countLeCapacity := Nat.zero_le k
  countLeCursor := Nat.le_refl 0
  valid j hj := absurd hj (Nat.not_lt_zero j)
  stored x hx := by cases List.eq_of_mem_replicate hx

theorem parts_reset : PartsOk referenceIoAddr State.reset.cpu State.reset.mem State.reset.lcd State.reset.timer
    State.reset.framebuffer where
  memoryOk := Memory.wf_nil
  flagsOk := by unfold Cpu.flagsOk; decide
  lcdOk := by unfold LcdTiming.ok; decide
  timerOk := by unfold TimerState.ok; decide
  framebufferOk := ⟨List.Pairwise.nil, fun _ he => absurd he List.not_mem_nil⟩
  mirror := by unfold lyMirrored; decide

/-- Settles O58: at reset the memory and the framebuffer list nothing, the ring was never pushed and no batch is open. -/
theorem resetHasTheInvariant : Obligations.ResetHasTheInvariant where
  parts := parts_reset
  ring := ringOk_empty (by decide) referenceIoAddr
  config := by decide
  batch h := by cases h

end Sys2Proof.Machine

namespace Sys2Proof.Machine

/-! ### The mediated write case by case (20_memory.md R82 to R87) -/

/-- An address for which no case of R82 but the last one holds. -/
structure PlainAddress (io : IoAddr) (a : Word) : Prop where
  notRom : 0x7FFF < a.toNat
  ne_dma : a ≠ io.dma
  ne_div : a ≠ io.div
  ne_sb : a ≠ io.sb

section
variable (s : State)

theorem memWrite_rom {a : Word} (v : Byte) (h : a.toNat ≤ 0x7FFF) : memWrite s a v = s := if_pos h

theorem memWrite_dma (v : Byte) (hio : s.cfg.ioOk = true) : memWrite s s.cfg.io.dma v = oamDma s v := by
  have hrom : 0x7FFF < s.cfg.io.dma.toNat := ioOk_high hio (by simp [IoAddr.addresses])
  rw [memWrite, if_neg (by omega), if_pos rfl]

theorem memWrite_div (v : Byte) (hio : s.cfg.ioOk = true) :
    memWrite s s.cfg.io.div v = directWrite s s.cfg.io.div 0 := by
  have hrom : 0x7FFF < s.cfg.io.div.toNat := ioOk_high hio (by simp [IoAddr.addresses])
  rw [memWrite, if_neg (by omega), if_neg (ioOk_distinct hio).div_dma, if_pos rfl]

theorem memWrite_sb (v : Byte) (hio : s.cfg.ioOk = true) :
    memWrite s s.cfg.io.sb v = s.setSerialOut (s.serialOut ++ [v]) := by
  have hrom : 0x7FFF < s.cfg.io.sb.toNat := ioOk_high hio (by simp [IoAddr.addresses])
  rw [memWrite, if_neg (by omega), if_neg (ioOk_distinct hio).sb_dma, if_neg (ioOk_distinct hio).sb_div, if_pos rfl]

theorem memWrite_plain {a : Word} (v : Byte) (h : PlainAddress s.cfg.io a) : memWrite s a v = directWrite s a v := by
  have hrom := h.notRom
  rw [memWrite, if_neg (by omega), if_neg h.ne_dma, if_neg h.ne_div, if_neg h.ne_sb]

/-- A direct write changes the byte at its address and nothing else (R80). -/
theorem directWrite_effect (a : Word) (v : Byte) :
    directRead (directWrite s a v) a = v
    ∧ (∀ x : Word, x ≠ a → directRead (directWrite s a v) x = directRead s x) ∧ OnlyMem s (directWrite s a v) :=
  ⟨directRead_directWrite_same s a v, fun _ hx => directRead_directWrite_other s v hx, onlyMem_directWrite s a v⟩

/-- Byte `i` of OAM after the DMA is byte `i` of the source page before it (R84). -/
theorem byteAt_oamDma (v : Byte) {i : Nat} (hi : i < 160) :
    byteAt (oamDma s v) (0xFE00 + i) = byteAt s (256 * v.toNat + i) := by
  have hv := v.isLt
  have hdst : (BitVec.ofNat 16 (0xFE00 + i)).toNat = 0xFE00 + i := by rw [BitVec.toNat_ofNat]; omega
  have hsrc : wordOf v 0 + (BitVec.ofNat 16 (0xFE00 + i) - 0xFE00#16) = BitVec.ofNat 16 (256 * v.toNat + i) := by
    apply BitVec.eq_of_toNat_eq
    rw [BitVec.toNat_add, BitVec.toNat_sub, wordOf_zero_toNat, hdst]
    simp only [BitVec.toNat_ofNat]
    omega
  rw [byteAt, directRead_oamDma, if_pos (by omega), hsrc, byteAt]

/-- Outside OAM the DMA changes no byte (R84). -/
theorem directRead_oamDma_outside (v : Byte) {x : Word} (h : x.toNat < 0xFE00 ∨ 0xFE9F < x.toNat) :
    directRead (oamDma s v) x = directRead s x := by
  rw [directRead_oamDma, if_neg (by omega)]

/-! ### 16-bit accesses (20_memory.md R88, R90) -/

theorem wordOf_toNat (hi lo : Byte) : (wordOf hi lo).toNat = lo.toNat + 256 * hi.toNat := by
  have hlo := lo.isLt
  rw [wordOf, BitVec.toNat_append, ← Nat.shiftLeft_add_eq_or_of_lt hlo, Nat.shiftLeft_eq]
  omega

theorem memRead16_toNat (a : Word) :
    (memRead16 s a).toNat = (directRead s a).toNat + 256 * (directRead s (a + 1)).toNat :=
  wordOf_toNat _ _

/-- A 16-bit write to plain memory is two direct writes, the low byte first (R87, R88). -/
theorem memWrite16_plain {a : Word} (v : Word) (hlo : PlainAddress s.cfg.io a) (hhi : PlainAddress s.cfg.io (a + 1)) :
    memWrite16 s a v = directWrite (directWrite s a (loByte v)) (a + 1) (hiByte v) := by
  rw [memWrite16, memWrite_plain s _ hlo]
  exact memWrite_plain (directWrite s a (loByte v)) _ hhi

/-- The second write does not reach the first one's byte: `a + 1` is never `a`, also where it wraps. -/
theorem memRead16_memWrite16_plain {a : Word} (v : Word) (hlo : PlainAddress s.cfg.io a)
    (hhi : PlainAddress s.cfg.io (a + 1)) : memRead16 (memWrite16 s a v) a = v := by
  have hne : a ≠ a + 1 := by bv_omega
  rw [memWrite16_plain s v hlo hhi, memRead16, memRead_eq, memRead_eq, directRead_directWrite_same,
    directRead_directWrite_other _ _ hne, directRead_directWrite_same, wordOf_hiByte_loByte]

end

/-- Settles O47: `memWrite` is rewritten to the operation of its case, since a well-formed IO_ADDR keeps DMA, DIV and SB apart and
out of ROM; a direct write and the OAM DMA have their effects once each. -/
theorem mediatedWriteCases : Obligations.MediatedWriteCases := by
  intro s a v
  refine ⟨memWrite_rom s v, fun hio => ⟨?_, ?_, ?_⟩, fun hrom hdma hdiv hsb => ?_⟩
  · rw [memWrite_dma s v hio]
    exact ⟨fun _ hi => byteAt_oamDma s v hi, fun _ hx => directRead_oamDma_outside s v hx, oamDma_onlyMem s v⟩
  · rw [memWrite_div s v hio]
    exact directWrite_effect s _ 0
  · exact memWrite_sb s v hio
  · rw [memWrite_plain s v ⟨hrom, hdma, hdiv, hsb⟩]
    exact directWrite_effect s a v

/-- Settles O48: the word read is the two bytes' concatenation, and a write to two plain addresses leaves its halves in them. -/
theorem wordAccessIsLittleEndianAndReadsBack : Obligations.WordAccessIsLittleEndianAndReadsBack := by
  intro s a v
  refine ⟨memRead16_toNat s a, fun ⟨hrom, hdma, hdiv, hsb⟩ ⟨hrom', hdma', hdiv', hsb'⟩ => ?_⟩
  exact memRead16_memWrite16_plain s v ⟨hrom, hdma, hdiv, hsb⟩ ⟨hrom', hdma', hdiv', hsb'⟩

end Sys2Proof.Machine

namespace Sys2Proof.Machine

/-! ### Decoding and encoding (30_encoding.md R121, R122, R124) -/

/-- Row by row of the maps, the decoder reads an instruction's own bytes; a word immediate is put together from its halves. -/
theorem decode_encodeEntry (i : Instr) (rest : List Byte) :
    decode (encodeEntry i).prefixed ((encodeEntry i).bytes ++ rest) = .ok (i, rest) := by
  cases i
  case ldBcN16 n | ldDeN16 n | ldHlN16 n | ldSpN16 n | ldAtN16Sp n | ldAtN16A n | ldAAtN16 n | jpN16 n | jpNzN16 n | jpZN16 n
      | jpNcN16 n | jpCN16 n | callN16 n | callNzN16 n | callZN16 n | callNcN16 n | callCN16 n =>
    conv_rhs => rw [← wordOf_hiByte_loByte n]
    rfl
  all_goals rfl

theorem decodeWord_unprefixed {op : Byte} (h : op ≠ 0xCB#8) (tail : List Byte) :
    decodeWord (op :: tail) = decode false (op :: tail) := if_neg h

theorem decodeWord_prefixed (op : Byte) (tail : List Byte) :
    decodeWord (0xCB#8 :: op :: tail) = decode true (op :: tail) := rfl

/-- The byte 0xCB starts no unprefixed instruction but the escape entry itself, so it tells a prefixed one (R124). -/
theorem decodeWord_encode {i : Instr} (h : i ≠ .prefixCb) (rest : List Byte) :
    decodeWord (encode i ++ rest) = .ok (i, rest) := by
  have hd := decode_encodeEntry i rest
  obtain ⟨op, b1, b2, hi, hbytes⟩ := decode_cases hd
  by_cases hp : (encodeEntry i).prefixed = true
  · rw [encode, if_pos hp, List.cons_append, hbytes, decodeWord_prefixed, ← hbytes, ← hp, hd]
  · have hfalse := Bool.eq_false_iff.mpr hp
    have hop : op ≠ 0xCB#8 := by
      rintro rfl
      rw [hfalse] at hi
      exact h hi
    rw [encode, if_neg hp, hbytes, decodeWord_unprefixed hop, ← hbytes, ← hfalse, hd]

/-- Settles O1: an entry's own bytes are read back row by row, and its first byte is 0xCB for the escape entry only. -/
theorem decodeOfEncodeIsTheInstruction : Obligations.DecodeOfEncodeIsTheInstruction :=
  fun i rest => ⟨decode_encodeEntry i rest, (descriptor_length i).symm, fun h => decodeWord_encode h rest⟩

/-- Settles O2: what the decoder read is the table entry of the first byte, which encodes to the bytes of its length. -/
theorem encodeOfDecodeIsTheBytes : Obligations.EncodeOfDecodeIsTheBytes := by
  intro p bytes rest i h
  obtain ⟨op, b1, b2, rfl, rfl⟩ := decode_cases h
  rw [encodeEntry_decodeEntry]
  exact ⟨rfl, rfl⟩

/-- Settles O3: each word is one `decode` of a fetch state, and its entry is read off the maps. -/
theorem writtenOutWordsDecode : Obligations.WrittenOutWordsDecode :=
  ⟨rfl, rfl, rfl, rfl, rfl, rfl, rfl, rfl, rfl, rfl, rfl, rfl, rfl⟩

/-! ### The undefined bytes (30_encoding.md R133, 46_system.md R346) -/

/-- The undefined entries are among the unprefixed ones. -/
theorem unprefixed_of_isUndefined {i : Instr} (h : isUndefined i = true) : (encodeEntry i).prefixed = false := by
  have hall : ∀ j ∈ undefinedForms, (encodeEntry j).prefixed = false := by decide
  exact hall i (by simpa [isUndefined] using h)

/-- The effect of every other instruction answers a next state. -/
theorem exec_completes (i : Instr) (s : State) (h : isUndefined i = false) : ∃ t, exec i s = .next t := by
  have k := exec_result i s h
  generalize exec i s = r at k ⊢
  cases k with
  | done t _ => exact ⟨t, rfl⟩

/-- Settles O35: the eleven rows are read off the map; a prefixed entry encodes to a prefixed one, an undefined entry does not. -/
theorem undefinedBytesAreStuckAndAllElseCompletes : Obligations.UndefinedBytesAreStuckAndAllElseCompletes := by
  refine ⟨fun e he s rest => ?_, exec_completes, fun op b1 b2 => ?_⟩
  · fin_cases he <;> exact ⟨rfl, rfl, exec_undefined _ s rfl⟩
  · rw [Bool.eq_false_iff]
    intro hu
    have hp := unprefixed_of_isUndefined hu
    rw [encodeEntry_decodeEntry] at hp
    cases hp

end Sys2Proof.Machine

namespace Sys2Proof.Machine

/-! ### The flag masks (30_encoding.md R138) -/

/-- The flags of `t` are as a mask says of an instruction that ran from `s`. -/
structure MaskAllows (m : FlagMask) (s t : State) : Prop where
  z : flagAllows m.z s.zf t.zf
  n : flagAllows m.n s.nf t.nf
  h : flagAllows m.h s.hf t.hf
  c : flagAllows m.c s.cf t.cf

/-- The outcome of an effect is a state whose flags a mask allows, or a fault. -/
inductive FlagResult (m : FlagMask) (s : State) : Result → Prop where
  | done (t : State) (h : MaskAllows m s t) : FlagResult m s (.next t)
  | stuck (r : Fault) : FlagResult m s (.fault r)

/-- The mask of an ALU operation's rows (42_alu8.md). -/
def aluMask : AluOp → FlagMask
  | .add | .adc => maskZ0HC
  | .sub | .sbc | .cp => maskZ1HC
  | .and => maskZ010
  | .xor | .or => maskZ000

/-- The mask of a prefixed rotate's or shift's rows (44_rotate_shift_bit.md): SWAP has no carry to write. -/
def shiftMask : ShiftKind → FlagMask
  | .swap => maskZ000
  | _ => maskZ00C

/-- The mask of a shape's rows. -/
def Shape.mask : Shape → FlagMask
  | .aluR op _ | .aluAtHl op | .aluN8 op _ => aluMask op
  | .incR _ | .incAtHl => maskZ0HK
  | .decR _ | .decAtHl => maskZ1HK
  | .daa => maskZK0C
  | .cpl => maskK11K
  | .scf => maskK001
  | .ccf => maskK00C
  | .addHlRr _ => maskK0HC
  | .addSpE8 _ | .ldHlSpE8 _ => mask00HC
  | .rlca | .rrca | .rla | .rra => mask000C
  | .shiftR k _ | .shiftAtHl k => shiftMask k
  | .bitR _ _ | .bitAtHl _ => maskZ01K
  | .pop .af => maskZNHC
  | _ => maskKKKK

/-- The table gives every row of a shape the same mask, whatever the operands. -/
theorem descriptor_flags (k : Shape) : (descriptor k.instr).flags = k.mask := by
  cases k
  case ldRR dst r => cases dst <;> cases r <;> rfl
  case ldRN8 dst _ | ldRAtHl dst | ldAtHlR dst | incR dst | decR dst => cases dst <;> rfl
  case ldRrN16 rr _ | incRr rr | decRr rr | addHlRr rr => cases rr <;> rfl
  case pop rr | push rr => cases rr <;> rfl
  case aluR op r => cases op <;> cases r <;> rfl
  case aluAtHl op | aluN8 op _ => cases op <;> rfl
  case shiftR k r => cases k <;> cases r <;> rfl
  case shiftAtHl k => cases k <;> rfl
  case bitR b r | resR b r | setR b r => cases b <;> cases r <;> rfl
  case bitAtHl b | resAtHl b | setAtHl b | rst b => cases b <;> rfl
  case jpCc cc _ | jrCc cc _ | callCc cc _ | retCc cc => cases cc <;> rfl
  all_goals rfl

@[simp] theorem regF_memWrite (s : State) (a : Word) (v : Byte) : (memWrite s a v).regF = s.regF := by
  rw [State.regF, memWrite_cpu]; rfl

@[simp] theorem regF_memWrite16 (s : State) (a v : Word) : (memWrite16 s a v).regF = s.regF := by
  rw [State.regF, memWrite16_cpu]; rfl

@[simp] theorem regF_push16 (s : State) (v : Word) : (push16 s v).regF = s.regF := by
  rw [State.regF, push16_cpu]; rfl

@[simp] theorem State.regF_setR16 (s : State) (r : R16) (v : Word) : (s.setR16 r v).regF = s.regF := by
  rw [State.regF, State.setR16_af]; rfl

section
variable {m : FlagMask} {s : State}

/-- An effect that leaves F leaves every flag. -/
theorem FlagResult.kept {t : State} (h : t.regF = s.regF) : FlagResult maskKKKK s (.next t) :=
  .done t ⟨congrArg (BitVec.getLsbD · 7) h, congrArg (BitVec.getLsbD · 6) h, congrArg (BitVec.getLsbD · 5) h,
    congrArg (BitVec.getLsbD · 4) h⟩

/-- An effect that ends by writing the flags is judged by the flags it writes. -/
theorem FlagResult.written {u : State} {g : Flags} (hz : flagAllows m.z s.zf g.z) (hn : flagAllows m.n s.nf g.n)
    (hh : flagAllows m.h s.hf g.h) (hc : flagAllows m.c s.cf g.c) : FlagResult m s (.next (u.setFlags g)) := by
  refine .done _ ⟨?_, ?_, ?_, ?_⟩
  · rwa [State.zf_setFlags]
  · rwa [State.nf_setFlags]
  · rwa [State.hf_setFlags]
  · rwa [State.cf_setFlags]

/-- Each ALU operation writes N, and the logical ones H and C, as its mask says (R240 to R242). -/
theorem aluOn_flags (op : AluOp) (b : Byte) (s : State) : FlagResult (aluMask op) s (aluOn op b s) := by
  cases op
  case add | adc | sub | sbc | cp => exact .written trivial rfl trivial trivial
  case and | xor | or => exact .written trivial rfl rfl rfl

/-- A prefixed rotate or shift writes Z and C from its result and N and H as 0; SWAP writes C as 0 too (R290). -/
theorem shift_flags (k : ShiftKind) (v : Byte) (c : Bool) (s u : State) :
    FlagResult (shiftMask k) s (.next (u.setFlags (shiftFlags k v c).2)) := by
  cases k
  case swap => exact .written trivial rfl rfl rfl
  all_goals exact .written trivial rfl rfl trivial

theorem bitTest_flags (b : Bit3) (v : Byte) (s : State) : FlagResult maskZ01K s (bitTest b v s) :=
  .written trivial rfl rfl rfl

theorem rotateA_flags (k : ShiftKind) (s : State) : FlagResult mask000C s (rotateA k s) := .written rfl rfl rfl trivial

/-- DAA leaves N and clears H on both of its paths (R271). -/
theorem daa8_flags (a : Byte) (g : Flags) : (daa8 a g).2.n = g.n ∧ (daa8 a g).2.h = false := by
  cases hn : g.n <;> simp [daa8, hn]

/-- POP AF gives every flag the byte popped, any other pop none (R224, R225). -/
theorem popPair_flags (rr : R16Stk) (s : State) : FlagResult (Shape.pop rr).mask s (popPair rr s) := by
  cases rr
  case af => exact .done _ ⟨trivial, trivial, trivial, trivial⟩
  all_goals exact .kept rfl

theorem jump_flags (v : Word) (s : State) : FlagResult maskKKKK s (jumpTo v s) := .kept rfl

theorem callTo_flags (v : Word) (s : State) : FlagResult maskKKKK s (callTo v s) := .kept (regF_push16 s _)

theorem returnNow_flags (s : State) : FlagResult maskKKKK s (returnNow s) := .kept rfl

theorem onCond_flags (cc : Cond) (f : State → Result) (s : State) (h : FlagResult maskKKKK s (f s)) :
    FlagResult maskKKKK s (onCond cc f s) := by
  unfold onCond
  split
  · exact h
  · exact .kept rfl

theorem haltBy_flags (p : HaltPolicy) (s : State) : FlagResult maskKKKK s (haltBy p s) := by
  unfold haltBy
  split
  · exact .kept rfl
  · split <;> exact .kept rfl

end

/-- Every effect writes the flags as the mask of its shape says. -/
theorem exec_flags (k : Shape) (s : State) : FlagResult k.mask s (exec k.instr s) := by
  cases k <;> simp only [Shape.instr]
  case ldRR => rw [exec_formLdRR]; exact .kept (s.regF_setR8 _ _)
  case ldRN8 => rw [exec_formLdRN8]; exact .kept (s.regF_setR8 _ _)
  case ldRAtHl => rw [exec_formLdRAtHl]; exact .kept (s.regF_setR8 _ _)
  case ldAAtBc | ldAAtDe | ldAAtN16 | ldhAAtC | ldhAAtN8 => exact .kept (s.regF_setR8 _ _)
  case ldAAtHlInc | ldAAtHlDec => exact .kept ((State.regF_setHl _ _).trans (s.regF_setR8 _ _))
  case ldAtHlR => rw [exec_formLdAtHlR]; exact .kept (regF_memWrite s _ _)
  case ldAtHlN8 | ldAtBcA | ldAtDeA | ldAtN16A | ldhAtCA | ldhAtN8A => exact .kept (regF_memWrite s _ _)
  case ldAtHlIncA | ldAtHlDecA => exact .kept ((State.regF_setHl _ _).trans (regF_memWrite s _ _))
  case ldRrN16 => rw [exec_formLdRrN16]; exact .kept (s.regF_setR16 _ _)
  case ldAtN16Sp => exact .kept (regF_memWrite16 s _ _)
  case pop => rw [exec_formPop]; exact popPair_flags _ s
  case push => rw [exec_formPush]; exact .kept (regF_push16 s _)
  case aluR => rw [exec_formAluR]; exact aluOn_flags _ _ s
  case aluAtHl => rw [exec_formAluAtHl]; exact aluOn_flags _ _ s
  case aluN8 => rw [exec_formAluN8]; exact aluOn_flags _ _ s
  case incR => rw [exec_formIncR]; exact .written trivial rfl trivial rfl
  case decR => rw [exec_formDecR]; exact .written trivial rfl trivial rfl
  case incAtHl | decAtHl => exact .written trivial rfl trivial rfl
  case daa =>
    obtain ⟨hn, hh⟩ := daa8_flags s.regA s.flags
    exact .written trivial hn hh trivial
  case cpl | scf => exact .written rfl rfl rfl rfl
  case ccf => exact .written rfl rfl rfl trivial
  case incRr => rw [exec_formIncRr]; exact .kept (s.regF_setR16 _ _)
  case decRr => rw [exec_formDecRr]; exact .kept (s.regF_setR16 _ _)
  case addHlRr => rw [exec_formAddHlRr]; exact .written rfl rfl trivial trivial
  case addSpE8 | ldHlSpE8 => exact .written rfl rfl trivial trivial
  case rlca | rrca | rla | rra => exact rotateA_flags _ s
  case shiftR => rw [exec_formShiftR]; exact shift_flags _ _ _ s _
  case shiftAtHl => rw [exec_formShiftAtHl]; exact shift_flags _ _ _ s _
  case bitR => rw [exec_formBitR]; exact bitTest_flags _ _ s
  case bitAtHl => rw [exec_formBitAtHl]; exact bitTest_flags _ _ s
  case resR => rw [exec_formResR]; exact .kept (s.regF_setR8 _ _)
  case resAtHl => rw [exec_formResAtHl]; exact .kept (regF_memWrite s _ _)
  case setR => rw [exec_formSetR]; exact .kept (s.regF_setR8 _ _)
  case setAtHl => rw [exec_formSetAtHl]; exact .kept (regF_memWrite s _ _)
  case jpCc => rw [exec_formJpCc]; exact onCond_flags _ _ s (jump_flags _ s)
  case jrCc => rw [exec_formJrCc]; exact onCond_flags _ _ s (jump_flags _ s)
  case callN16 => exact callTo_flags _ s
  case callCc => rw [exec_formCallCc]; exact onCond_flags _ _ s (callTo_flags _ s)
  case retCc => rw [exec_formRetCc]; exact onCond_flags _ _ s (returnNow_flags s)
  case rst => rw [exec_formRst]; exact callTo_flags _ s
  case halt => exact haltBy_flags _ s
  case ldSpHl | jpN16 | jpHl | jrE8 | ret | reti | nop | stop | di | ei | prefixCb => exact .kept rfl
  all_goals exact .stuck _

/-- Settles O36: every effect writes the flags as the mask of its shape says, and that is the mask of its row. -/
theorem flagMasksAgree : Obligations.FlagMasksAgree := by
  intro i s t h
  obtain ⟨k, rfl⟩ := exists_shape i
  have hk := exec_flags k s
  rw [h] at hk
  rw [descriptor_flags]
  cases hk with
  | done _ hm => exact ⟨hm.z, hm.n, hm.h, hm.c⟩

end Sys2Proof.Machine

namespace Sys2Proof.Machine

/-! ### Fetching an entry of TABLE (30_encoding.md R120, R121, R137; 40_cpu_engine.md R163 to R168) -/

/-- Every instruction is the table entry of the first of its own bytes. -/
theorem exists_decodeEntry (i : Instr) : ∃ p op b1 b2, i = decodeEntry p op b1 b2 := by
  obtain ⟨op, b1, b2, hi, -⟩ := decode_cases (decode_encodeEntry i [])
  exact ⟨_, op, b1, b2, hi⟩

/-- The first byte of an entry takes as many bytes as the entry is encoded in. -/
theorem entryLength_of_bytes {i : Instr} {op : Byte} {imm : List Byte} (h : (encodeEntry i).bytes = op :: imm) :
    entryLength (encodeEntry i).prefixed op = 1 + imm.length := by
  obtain ⟨p, op', b1, b2, rfl⟩ := exists_decodeEntry i
  rw [encodeEntry_decodeEntry] at h ⊢
  obtain ⟨rfl, rfl⟩ := List.cons.inj h
  rcases entryLength_range p op' with hl | hl | hl <;> rw [hl] <;> rfl

theorem fillOperands_bare {i : Instr} {op : Byte} (h : (encodeEntry i).bytes = [op]) (n8 : Byte) (n16 : Word) :
    fillOperands i n8 n16 = i := by
  simp only [fillOperands, h]

/-- A kind that takes a byte is encoded with the byte filled in. -/
theorem encodeEntry_fillOperands_byte {i : Instr} {op b : Byte} (h : (encodeEntry i).bytes = [op, b]) (n8 : Byte)
    (n16 : Word) : encodeEntry (fillOperands i n8 n16) = ⟨(encodeEntry i).prefixed, [op, n8]⟩ := by
  simp only [fillOperands, h, encodeEntry_decodeEntry, entryLength_of_bytes h]; rfl

/-- A kind that takes a word is encoded with the word filled in, its low byte first. -/
theorem encodeEntry_fillOperands_word {i : Instr} {op b c : Byte} (h : (encodeEntry i).bytes = [op, b, c]) (n8 : Byte)
    (n16 : Word) : encodeEntry (fillOperands i n8 n16) = ⟨(encodeEntry i).prefixed, [op, loByte n16, hiByte n16]⟩ := by
  simp only [fillOperands, h, encodeEntry_decodeEntry, entryLength_of_bytes h]; rfl

theorem entryLoads_iff {e : TableEntry} {k : Selector} : entryLoads e k = true ↔ e.operand1 = k ∨ e.operand2 = k := by
  simp [entryLoads]

/-- A selector `imm8` loads the byte at PC + 1 for an entry that takes one (R137, R165). -/
theorem encodeEntry_fetchInstr_byte {s : State} {op b : Byte} (h : (encodeEntry (fetchEntry s).effect).bytes = [op, b])
    (hsel : (fetchEntry s).operand1 = .imm8 ∨ (fetchEntry s).operand2 = .imm8) :
    encodeEntry (fetchInstr s) = ⟨(encodeEntry (fetchEntry s).effect).prefixed, [op, directRead s (s.cpu.pc + 1)]⟩ := by
  rw [fetchInstr, encodeEntry_fillOperands_byte h, loadedByte, if_pos (entryLoads_iff.2 hsel), memRead_eq]

/-- A selector `imm16` loads the word at PC + 1 for an entry that takes one (R137, R165). -/
theorem encodeEntry_fetchInstr_word {s : State} {op b c : Byte}
    (h : (encodeEntry (fetchEntry s).effect).bytes = [op, b, c])
    (hsel : (fetchEntry s).operand1 = .imm16 ∨ (fetchEntry s).operand2 = .imm16) :
    encodeEntry (fetchInstr s) = ⟨(encodeEntry (fetchEntry s).effect).prefixed,
      [op, directRead s (s.cpu.pc + 1), directRead s (s.cpu.pc + 1 + 1)]⟩ := by
  rw [fetchInstr, encodeEntry_fillOperands_word h, loadedWord, if_pos (entryLoads_iff.2 hsel), memRead16, loByte_wordOf,
    hiByte_wordOf, memRead_eq, memRead_eq]

/-- TABLE's indices rise (log 9). -/
theorem tableOk_rising {c : Config} (h : c.tableOk = true) : c.table.Pairwise (fun a b => a.1 < b.1) := by
  simp only [Config.tableOk, Bool.and_eq_true, decide_eq_true_eq] at h
  exact h.2

/-- An effect that completes makes the CPU step complete, charged by comparing PC (R167, R168, R173). -/
theorem fetchExecute_next {s t : State}
    (h : exec (fetchInstr s) (advancePc s (fetchEntry s).length) = .next t) :
    fetchExecute s = .next ⟨raiseBreak (fetchIndex s) t,
      cycleCharge (fetchEntry s) (advancePc s (fetchEntry s).length) t, !t.cpu.prefixOp⟩ := by
  unfold fetchExecute; dsimp only; rw [h]

theorem fetchExecute_fault {s : State} {r : Fault}
    (h : exec (fetchInstr s) (advancePc s (fetchEntry s).length) = .fault r) : fetchExecute s = .fault r := by
  unfold fetchExecute; dsimp only; rw [h]

theorem raiseBreak_eq (index : Nat) (t : State) :
    raiseBreak index t = if index ∈ t.cfg.breakOpcodes then t.setBreakFlag true else t := by
  simp only [raiseBreak, List.contains_iff_mem]

/-- Settles O38: the entry is looked up in TABLE (`fetchEntry_listed`, `fetch_reference`), an entry's own bytes fix how the
operand is filled in, and a completed effect is charged by `cycleCharge`. -/
theorem fetchExecuteChargesByPc : Obligations.FetchExecuteChargesByPc := by
  intro s t
  refine ⟨fun hok _ he hi => fetchEntry_listed s he (tableOk_rising hok) hi, fetch_reference s,
    fun _ hop => fillOperands_bare hop _ _, fun _ _ hop => encodeEntry_fetchInstr_byte hop,
    fun _ _ _ hop => encodeEntry_fetchInstr_word hop, fun ht => ?_⟩
  exact ⟨_, fetchExecute_next ht, rfl, rfl, raiseBreak_eq _ t⟩

/-! ### The poll and the dispatch (40_cpu_engine.md R161, 60_exceptions.md R401 to R404) -/

theorem pollRuns_iff (s : State) : pollRuns s = true ↔ Polls s := by
  simp [pollRuns, Polls]

/-- The pending byte has the bit of each of the five sources that is enabled and pending. -/
theorem pendingSources_bit (s : State) {k : Nat} (hk : k < 5) : (pendingSources s).getLsbD k = true ↔ Requested s k := by
  have hmask : (0x1F#8).getLsbD k = true := by interval_cases k <;> rfl
  simp only [pendingSources, Requested, memRead_eq, BitVec.getLsbD_and, hmask, Bool.and_true, Bool.and_eq_true]

theorem selectedSource_of_not_polls {s : State} (h : ¬ Polls s) : selectedSource s = none :=
  if_neg fun hp => h ((pollRuns_iff s).1 hp)

/-- A poll searches the five sources upwards. -/
theorem selectedSource_of_polls {s : State} (h : Polls s) :
    selectedSource s = (List.range 5).find? (fun k => (pendingSources s).getLsbD k) :=
  if_pos ((pollRuns_iff s).2 h)

theorem selectedSource_of_none_requested {s : State} (h : ∀ k, k < 5 → ¬ Requested s k) : selectedSource s = none := by
  by_cases hp : Polls s
  · rw [selectedSource_of_polls hp, List.find?_range_eq_none]
    intro k hk
    rw [Bool.not_eq_true', Bool.eq_false_iff, ne_eq, pendingSources_bit s hk]
    exact h k hk
  · exact selectedSource_of_not_polls hp

theorem selectedSource_of_lowest {s : State} {k : Nat} (hk : k < 5) (hp : Polls s) (hr : Requested s k)
    (hlow : ∀ j, j < k → ¬ Requested s j) : selectedSource s = some k := by
  rw [selectedSource_of_polls hp, List.find?_range_eq_some]
  refine ⟨(pendingSources_bit s hk).2 hr, List.mem_range.2 hk, fun j hj => ?_⟩
  rw [Bool.not_eq_true', Bool.eq_false_iff, ne_eq, pendingSources_bit s (hj.trans hk)]
  exact hlow j hj

theorem cpuStep_of_none {s : State} (h : selectedSource s = none) : cpuStep s = fetchExecute s := by
  unfold cpuStep; rw [h]

theorem cpuStep_of_some {s : State} {k : Nat} (h : selectedSource s = some k) :
    cpuStep s = .next ⟨takeInterrupt (ifClear s k) k, 20, true⟩ := by
  unfold cpuStep; rw [h]

theorem ifClear_cpu (s : State) (k : Nat) : (ifClear s k).cpu = s.cpu := rfl
theorem ifClear_cfg (s : State) (k : Nat) : (ifClear s k).cfg = s.cfg := rfl

theorem directRead_ifClear (s : State) (k : Nat) (a : Word) :
    directRead (ifClear s k) a
      = if a = s.cfg.io.ifReg then directRead s a &&& ~~~(1#8 <<< k) else directRead s a := by
  rw [ifClear, directRead_directWrite]
  split
  · next h => rw [h]
  · rfl

theorem interruptVector_eq (k : Nat) : interruptVector k = BitVec.ofNat 16 (0x40 + 8 * k) := (BitVec.ofNat_add ..).symm

/-- The CPU registers after an interrupt is taken: SP, PC and IME are written, no other (R403, R406). -/
theorem takeInterrupt_cpu (s : State) (k : Nat) :
    (takeInterrupt s k).cpu = { s.cpu with
      sp := s.cpu.sp - 2, pc := interruptVector k, ime := s.cpu.ime && !s.cfg.dispatchClearsIme } := by
  have hc := push16_cpu s s.cpu.pc
  unfold takeInterrupt
  cases hd : s.cfg.dispatchClearsIme with
  | true => rw [if_pos rfl, State.setIme, State.setPc, State.setCpu_cpu, State.setCpu_cpu, hc, Bool.not_true, Bool.and_false]
  | false => rw [if_neg Bool.false_ne_true, State.setPc, State.setCpu_cpu, hc, Bool.not_false, Bool.and_true]

/-- Taking an interrupt pushes PC by the write dispatch. -/
theorem storesWord_takeInterrupt (s : State) (k : Nat) :
    StoresWord s (takeInterrupt s k) (s.cpu.sp - 2) s.cpu.pc := by
  refine (storesWord_push16 s s.cpu.pc).onlyCpu ?_
  unfold takeInterrupt
  dsimp only
  split <;> rfl

/-- A dispatch changes the CPU registers, the memory image and the serial history only. -/
theorem onlyCpuMemSerial_dispatch (s : State) (k : Nat) : OnlyCpuMemSerial s (takeInterrupt (ifClear s k) k) :=
  OnlyCpuMemSerial.trans (t := ifClear s k) rfl (tame_takeInterrupt _ k).frame

/-- Settles O39: the poll's search finds the lowest requested source, and taking it pushes PC as a store of a word to the bytes
that clearing its IF bit leaves. -/
theorem pollAndDispatch : Obligations.PollAndDispatch := by
  intro s
  refine ⟨fun hp => cpuStep_of_none (selectedSource_of_not_polls hp),
    fun _ hr => cpuStep_of_none (selectedSource_of_none_requested hr), fun k hk hp hr hlow => ?_⟩
  have hcpu := takeInterrupt_cpu (ifClear s k) k
  obtain ⟨hbytes, hserial, -⟩ := storesWord_takeInterrupt (ifClear s k) k
  rw [funext (directRead_ifClear s k)] at hbytes
  rw [ifClear_cpu, ifClear_cfg, hp.1, Bool.true_and, interruptVector_eq] at hcpu
  exact ⟨_, cpuStep_of_some (selectedSource_of_lowest hk hp hr hlow), rfl, rfl, hcpu, hbytes, hserial,
    onlyCpuMemSerial_dispatch s k⟩

/-! ### The start of an iteration (40_cpu_engine.md R170, R178) -/

theorem beginIteration_breakFlag (s : State) : (beginIteration s).breakFlag = false := by
  unfold beginIteration emitTrace; split <;> rfl

/-- An iteration reads memory as the joypad sample leaves it: JOYP is written, no other byte (R460). -/
theorem directRead_beginIteration (s : State) (a : Word) :
    directRead (beginIteration s) a
      = if a = s.cfg.io.joyp then joypByte (directRead s s.cfg.io.joyp) s.joypad else directRead s a :=
  (beginIteration_read s a).trans (joypadSample_read s a)

theorem emitTrace_traceOut (s : State) :
    (emitTrace s).traceOut
      = if s.cfg.traceEnabled = true ∧ s.cpu.prefixOp = false then s.traceOut ++ [traceLine s] else s.traceOut := by
  simp only [emitTrace, Bool.and_eq_true, Bool.not_eq_true']
  split <;> rfl

/-- A line's registers and bytes are not those of the sink. -/
theorem traceLine_emitTrace (s : State) : traceLine (emitTrace s) = traceLine s := by
  unfold emitTrace; split <;> rfl

/-- The line is that of the state the iteration begins with: the joypad is sampled first. -/
theorem beginIteration_traceOut (s : State) :
    (beginIteration s).traceOut
      = if s.cfg.traceEnabled = true ∧ s.cpu.prefixOp = false then s.traceOut ++ [traceLine (beginIteration s)]
        else s.traceOut := by
  rw [beginIteration, emitTrace_traceOut, traceLine_emitTrace]; rfl

/-- Settles O56: the line is read off `traceLine`, the bytes off the joypad sample. -/
theorem traceSink : Obligations.TraceSink := by
  intro s
  have htrace := beginIteration_traceOut s
  refine ⟨fun hon => ⟨traceLine (beginIteration s), htrace.trans (if_pos hon), ?_⟩, fun hoff => ?_, ?_, fun a ha => ?_,
    beginIteration_breakFlag s, beginIteration_frame s⟩
  · rw [State.regA, State.regF, ← beginIteration_cpu s]
    exact ⟨rfl, rfl, wordOf_hiByte_loByte _, wordOf_hiByte_loByte _, wordOf_hiByte_loByte _, rfl, rfl, rfl, rfl, rfl, rfl⟩
  · rw [htrace, if_neg]
    rintro ⟨ht, hp⟩
    simp [ht, hp] at hoff
  · rw [directRead_beginIteration, if_pos rfl]
  · rw [directRead_beginIteration, if_neg ha]

/-! ### Steps between and inside batches (40_cpu_engine.md R172 to R177) -/

section
variable {s t : State}

theorem step_of_inBatch (h : s.inBatch = true) : step s = batchIteration s := if_pos h

/-- A frame whose budget is 0 is the host's actions alone (log 1). -/
theorem step_of_no_budget (h : s.inBatch = false) (ht : hostBoundary s = t) (hb : batchBudget t = 0) :
    step s = .next t := by
  subst ht
  unfold step transition
  rw [if_neg (by simp [h])]
  exact if_pos hb

/-- The first step of a batch is a step inside the batch that begins after the host's actions. -/
theorem step_of_budget (h : s.inBatch = false) (ht : hostBoundary s = t) (hb : 0 < batchBudget t) :
    step s = step (beginBatch t) := by
  subst ht
  rw [step_of_inBatch (s := beginBatch _) rfl]
  unfold step transition
  rw [if_neg (by simp [h])]
  exact if_neg (Nat.pos_iff_ne_zero.1 hb)

theorem hostBoundary_of_nil (h : s.hostScript = []) : hostBoundary s = s := by unfold hostBoundary; rw [h]

theorem hostBoundary_of_cons {acts : List HostAction} {later : List (List HostAction)} (h : s.hostScript = acts :: later) :
    hostBoundary s = acts.foldl hostAct (s.setHostScript later) := by unfold hostBoundary; rw [h]

theorem batchBudget_of_paused (h : s.runState = .paused) : batchBudget s = 0 := by unfold batchBudget; rw [h]

/-- A paused machine has no budget, so a batch ends when its slots do. -/
theorem batchEnds_iff (s : State) : batchEnds s = true ↔ batchBudget s ≤ s.slotsDone := by
  simp only [batchEnds, Bool.or_eq_true, decide_eq_true_eq]
  refine ⟨fun h => h.elim (fun hp => ?_) id, .inr⟩
  rw [batchBudget_of_paused hp]
  exact Nat.zero_le _

theorem step_of_iteration (hb : s.inBatch = true) (h : iteration s = .next t) :
    step s = .next (if batchEnds t then endFrame t else t) := by
  rw [step_of_inBatch hb, batchIteration, h]

theorem endFrame_runState (s : State) :
    (endFrame s).runState = if s.runState = .step then .paused else s.runState := by
  unfold endFrame
  dsimp only
  split <;> split <;> rfl

theorem endFrame_ring_eq (s : State) :
    (endFrame s).ring = if s.cfg.rewindPushPerFrame then (pushSaveState s).ring else s.ring := by
  unfold endFrame
  dsimp only
  rw [State.setInBatch_ring, apply_ite State.ring]
  split <;> rfl

end

/-- Settles O54: a boundary's step is the host's actions and then, by the budget they leave, rest or the new batch's first step;
a frame's end is `endFrame`, by the budget against the slots. -/
theorem batchesAndFrames : Obligations.BatchesAndFrames := by
  intro s
  refine ⟨fun hb hs hp => step_of_no_budget hb (hostBoundary_of_nil hs) (batchBudget_of_paused hp),
    fun hb hs => step_of_budget hb (hostBoundary_of_nil hs),
    fun acts later hb hs =>
      ⟨step_of_no_budget hb (hostBoundary_of_cons hs), step_of_budget hb (hostBoundary_of_cons hs)⟩, fun t hb hi => ?_⟩
  have hstep := step_of_iteration hb hi
  refine ⟨fun hopen => ?_, fun hdone => ⟨endFrame t, ?_, endFrame_inBatch t, endFrame_runState t, endFrame_ring_eq t, ?_⟩⟩
  · rwa [if_neg (fun h => Nat.not_le_of_lt hopen ((batchEnds_iff t).1 h))] at hstep
  · rwa [if_pos ((batchEnds_iff t).2 hdone)] at hstep
  · rw [← endFrame_frame t]
    exact ⟨rfl, rfl, rfl, rfl, rfl, rfl, rfl, rfl, rfl, rfl, rfl, rfl, rfl, rfl, rfl⟩

/-! ### What an iteration leaves of the orchestrator's fields (40_cpu_engine.md R170, R171, R173) -/

/-- What no part of an iteration writes before its breakpoint check. -/
structure SameOrchestrator (s t : State) : Prop where
  runState : t.runState = s.runState
  breakpoint : t.breakpoint = s.breakpoint
  slotsDone : t.slotsDone = s.slotsDone

/-- The device advances keep the CPU registers and the break flag too. -/
structure SameEngine (s t : State) : Prop extends SameOrchestrator s t where
  cpu : t.cpu = s.cpu
  breakFlag : t.breakFlag = s.breakFlag

section
variable {s t u : State}

theorem SameOrchestrator.trans (h : SameOrchestrator s t) (k : SameOrchestrator t u) : SameOrchestrator s u :=
  ⟨k.runState.trans h.runState, k.breakpoint.trans h.breakpoint, k.slotsDone.trans h.slotsDone⟩

theorem SameEngine.trans (h : SameEngine s t) (k : SameEngine t u) : SameEngine s u :=
  ⟨h.toSameOrchestrator.trans k.toSameOrchestrator, k.cpu.trans h.cpu, k.breakFlag.trans h.breakFlag⟩

theorem CpuTame.sameOrchestrator (h : CpuTame s t) : SameOrchestrator s t := by
  have hf := h.frame
  unfold OnlyCpuMemSerial at hf
  exact ⟨(congrArg State.runState hf).symm, (congrArg State.breakpoint hf).symm, (congrArg State.slotsDone hf).symm⟩

theorem Tame.breakFlag (h : Tame s t) : t.breakFlag = s.breakFlag := (congrArg State.breakFlag h.frame).symm

end

theorem sameOrchestrator_beginIteration (s : State) : SameOrchestrator s (beginIteration s) := by
  unfold beginIteration emitTrace; split <;> exact ⟨rfl, rfl, rfl⟩

theorem sameEngine_timerAdvance (s : State) (c : Nat) : SameEngine s (timerAdvance s c) := by
  rw [← timerAdvance_frame]; exact ⟨⟨rfl, rfl, rfl⟩, rfl, rfl⟩

theorem sameEngine_ppuAdvance (s : State) (c : Nat) : SameEngine s (ppuAdvance s c) := by
  rw [← ppuAdvance_frame]; exact ⟨⟨rfl, rfl, rfl⟩, rfl, rfl⟩

/-- The breakpoint check writes the run-state, and nothing else (R171). -/
theorem breakpointCheck_eq (s : State) :
    breakpointCheck s
      = s.setRunState (if s.breakpoint = some s.cpu.pc ∨ s.breakFlag = true then .paused else s.runState) := by
  unfold breakpointCheck; split <;> rfl

theorem countSlot_eq (s : State) (b : Bool) : countSlot s b = s.setSlotsDone (s.slotsDone + b.toNat) := by
  cases b <;> rfl

/-- `t` is the end of an iteration begun in `s` whose CPU step gave `x`. -/
structure IterationEnd (s : State) (x : CpuStep) (t : State) : Prop where
  step : cpuStep (beginIteration s) = .next x
  cpu : t.cpu = x.state.cpu
  breakFlag : t.breakFlag = x.state.breakFlag
  breakpoint : t.breakpoint = s.breakpoint
  runState : t.runState = if t.breakpoint = some t.cpu.pc ∨ t.breakFlag = true then .paused else s.runState
  slots : t.slotsDone = s.slotsDone + x.usesSlot.toNat

/-- After the CPU step an iteration writes devices, the run-state and the slot count only. -/
theorem exists_iterationEnd {s t : State} (h : iteration s = .next t) : ∃ x, IterationEnd s x t := by
  obtain ⟨x, hx, rfl⟩ := iteration_cases s h
  have hstart := (sameOrchestrator_beginIteration s).trans (cpuStep_tame _ hx).sameOrchestrator
  have hdev := (sameEngine_timerAdvance x.state x.cycles).trans (sameEngine_ppuAdvance _ x.cycles)
  have hall := hstart.trans hdev.toSameOrchestrator
  rw [endIteration, breakpointCheck_eq, countSlot_eq]
  exact ⟨x, hx, hdev.cpu, hdev.breakFlag, hall.breakpoint, by rw [hall.runState]; rfl, by rw [← hall.slotsDone]; rfl⟩

/-! ### The slot and the break flag of a CPU step -/

theorem raiseBreak_cpu (index : Nat) (t : State) : (raiseBreak index t).cpu = t.cpu := by
  unfold raiseBreak; split <;> rfl

theorem raiseBreak_of_nil {index : Nat} {t : State} (h : t.cfg.breakOpcodes = []) : raiseBreak index t = t := by
  unfold raiseBreak; rw [h]; rfl

section
variable {s : State} {x : CpuStep}

/-- A dispatch uses a slot, and leaves PREFIX as it was (R173; log 17). -/
theorem cpuStep_dispatch (h : cpuStep s = .next x) (hk : selectedSource s ≠ none) :
    x.usesSlot = true ∧ x.state.cpu.prefixOp = s.cpu.prefixOp := by
  rcases cpuStep_cases s h with ⟨k, -, rfl⟩ | ⟨t, hnone, -⟩
  · exact ⟨rfl, by rw [takeInterrupt_cpu, ifClear_cpu]⟩
  · exact absurd hnone hk

/-- An entry uses a slot unless its effect set PREFIX (R168, R173). -/
theorem cpuStep_entry (h : cpuStep s = .next x) (hk : selectedSource s = none) :
    x.usesSlot = !x.state.cpu.prefixOp := by
  rcases cpuStep_cases s h with ⟨k, hsome, -⟩ | ⟨t, -, -, rfl⟩
  · rw [hk] at hsome; cases hsome
  · rw [raiseBreak_cpu]

/-- The break flag is raised by an entry of BREAK_OPCODES only (R348). -/
theorem cpuStep_breakFlag (h : cpuStep s = .next x) (hb : s.cfg.breakOpcodes = []) :
    x.state.breakFlag = s.breakFlag := by
  rcases cpuStep_cases s h with ⟨k, -, rfl⟩ | ⟨t, -, ht, rfl⟩
  · exact (congrArg State.breakFlag (onlyCpuMemSerial_dispatch s k)).symm
  · have hcfg : t.cfg = s.cfg := (exec_tame ht).frame.cfg
    rw [raiseBreak_of_nil (by rw [hcfg, hb])]
    exact (exec_tame ht).breakFlag

/-- No prefixed entry of the reference TABLE is the escape entry, which alone sets PREFIX (R37, R132). -/
theorem cpuStep_prefixed (h : cpuStep s = .next x) (hk : selectedSource s = none) (hp : s.cpu.prefixOp = true)
    (ht : s.cfg.table = []) : x.state.cpu.prefixOp = false := by
  rcases cpuStep_cases s h with ⟨k, hsome, -⟩ | ⟨t, -, hexec, rfl⟩
  · rw [hk] at hsome; cases hsome
  · have hi : fetchInstr s ≠ .prefixCb := by
      intro hcb
      have henc := encodeEntry_decodeEntry s.cpu.prefixOp (directRead s s.cpu.pc) (directRead s (s.cpu.pc + 1))
        (directRead s (s.cpu.pc + 2))
      rw [← (fetch_reference s (by rw [FetchesReference, ht]; simp)).1, hcb, hp] at henc
      cases henc
    rw [raiseBreak_cpu]
    exact (exec_controlFrame hexec).prefixOp hi

end

/-- Settles O55: an iteration ends as its CPU step left the registers, the break flag and the slot, by the two cases of that
step: a dispatch or an entry. -/
theorem breakpointsAndSlots : Obligations.BreakpointsAndSlots := by
  intro s t h
  obtain ⟨x, hx⟩ := exists_iterationEnd h
  have hcpu := beginIteration_cpu s
  have hcfg := beginIteration_cfg s
  have hdispatch (hk : selectedSource (beginIteration s) ≠ none) :
      t.slotsDone = s.slotsDone + 1 ∧ t.cpu.prefixOp = s.cpu.prefixOp := by
    obtain ⟨hslot, hpre⟩ := cpuStep_dispatch hx.step hk
    exact ⟨by rw [hx.slots, hslot]; rfl, by rw [hx.cpu, hpre, hcpu]⟩
  have hentry (hk : selectedSource (beginIteration s) = none) :
      t.slotsDone = s.slotsDone + (if t.cpu.prefixOp then 0 else 1) := by
    rw [hx.slots, cpuStep_entry hx.step hk, hx.cpu]
    cases x.state.cpu.prefixOp <;> rfl
  refine ⟨hx.runState, hx.breakpoint, fun hb => ?_, fun hk => (hdispatch hk).1, hentry, fun hp => ?_, fun hp ht => ?_⟩
  · rw [hx.breakFlag, cpuStep_breakFlag hx.step (by rw [hcfg, hb]), beginIteration_breakFlag]
  · by_cases hk : selectedSource (beginIteration s) = none
    · exact hentry hk
    · obtain ⟨hslot, hpre⟩ := hdispatch hk
      rw [hslot, hpre, hp]; rfl
  · by_cases hk : selectedSource (beginIteration s) = none
    · have hpre := cpuStep_prefixed hx.step hk (by rw [hcpu, hp]) (by rw [hcfg, ht])
      rw [hentry hk, hx.cpu, hpre]; rfl
    · exact (hdispatch hk).1

/-! ### The step of a decoded instruction (40_cpu_engine.md R163 to R170) -/

theorem advancePc_pc (s : State) (n : Nat) : (advancePc s n).cpu.pc = s.cpu.pc + BitVec.ofNat 16 n := rfl

/-- Where TABLE has its reference entry, the instruction fetched is the one the bytes at PC decode to. -/
theorem fetch_decoded {s : State} {i : Instr} {rest : List Byte}
    (hd : decode s.cpu.prefixOp [directRead s s.cpu.pc, directRead s (s.cpu.pc + 1), directRead s (s.cpu.pc + 2)]
      = .ok (i, rest)) (ht : ∀ e ∈ s.cfg.table, e.1 ≠ tableIndex i) :
    fetchIndex s = tableIndex i ∧ fetchInstr s = i ∧ (fetchEntry s).length = (descriptor i).length
    ∧ ∀ u v : State, cycleCharge (fetchEntry s) u v
      = 4 * (descriptor i).charged s.cfg.prefixCycleSplit (decide (v.cpu.pc ≠ u.cpu.pc)) := by
  have hi := decodeEntry_of_decode hd
  have hindex : fetchIndex s = tableIndex i := by rw [hi, tableIndex_decodeEntry]; rfl
  obtain ⟨hf, hlen, hm, hmt⟩ := fetch_reference s (by rw [FetchesReference, hindex]; exact ht)
  rw [← hi] at hf
  rw [hf] at hlen hm hmt
  refine ⟨hindex, hf, hlen, fun u v => ?_⟩
  rw [cycleCharge, hm, hmt]
  by_cases hpc : v.cpu.pc = u.cpu.pc <;> simp [hpc]

theorem iteration_of_cpuStep {s : State} {x : CpuStep} (h : cpuStep (beginIteration s) = .next x) :
    iteration s = .next (countSlot (endIteration x.state x.cycles) x.usesSlot) := by
  unfold iteration; rw [h]

theorem step_of_fault {s : State} {r : Fault} (hb : s.inBatch = true) (h : cpuStep (beginIteration s) = .fault r) :
    step s = .fault r := by
  rw [step_of_inBatch hb, batchIteration, iteration, h]

/-- Settles O4: the poll selects no source, so the step is the fetched instruction's, which is the decoded one. -/
theorem stepRunsTheDecodedInstruction : Obligations.StepRunsTheDecodedInstruction := by
  intro s i rest b row after before hb hk ht _ hd
  have hcfg : b.cfg = s.cfg := beginIteration_cfg s
  obtain ⟨hindex, hinstr, hlen, hcost⟩ := fetch_decoded hd (by rw [hcfg]; exact ht)
  have hbefore : exec (fetchInstr b) (advancePc b (fetchEntry b).length) = exec i before := by rw [hinstr, hlen]; rfl
  refine ⟨fun t hexec => ?_, fun r hexec => ?_⟩
  · have hcpu := (cpuStep_of_none hk).trans (fetchExecute_next (hbefore.trans hexec))
    have hbreak : t.cfg = s.cfg := (exec_tame hexec).frame.cfg.trans hcfg
    rw [hindex, raiseBreak_eq, hbreak, hcost, hcfg, hlen, advancePc_pc] at hcpu
    have hstep := step_of_iteration hb (iteration_of_cpuStep hcpu)
    rw [endIteration] at hstep
    exact hstep
  · exact step_of_fault hb ((cpuStep_of_none hk).trans (fetchExecute_fault (hbefore.trans hexec)))

end Sys2Proof.Machine

namespace Sys2Proof.Machine

/-! ### The row of an unprefixed entry (30_encoding.md R121, R132) -/

/-- The encoder's bytes and the descriptor's counts give the row: what an entry encodes to, the decoder reads. -/
theorem row_unprefixed {i : Instr} {op m mt : Nat} {imm : List Byte} {k : FlagMask}
    (henc : encodeEntry i = ⟨false, BitVec.ofNat 8 op :: imm⟩) (hrow : descriptor i = plainEntry (1 + imm.length) m mt k) :
    Row i false op imm m mt := by
  rw [Row, hrow]
  refine ⟨fun rest => ?_, rfl, rfl, rfl, rfl, rfl⟩
  have hd := decode_encodeEntry i rest
  rwa [henc] at hd

/-! ### Registers and pairs after a write (10_state.md R31, R34; 30_encoding.md R127, R128) -/

section
variable (s : State)

theorem State.r16_setR16_same (r : R16) (v : Word) : (s.setR16 r v).r16 r = v := by cases r <;> rfl

theorem State.r16_setR16_other {r x : R16} (h : x ≠ r) (v : Word) : (s.setR16 r v).r16 x = s.r16 x := by
  cases r <;> cases x <;> first | exact absurd rfl h | rfl

theorem State.r16Stk_setR16Stk_same {r : R16Stk} (h : r ≠ .af) (v : Word) : (s.setR16Stk r v).r16Stk r = v := by
  cases r
  case af => exact absurd rfl h
  all_goals rfl

theorem State.r16Stk_setR16Stk_other {r x : R16Stk} (h : x ≠ r) (v : Word) : (s.setR16Stk r v).r16Stk x = s.r16Stk x := by
  cases r <;> cases x <;> first | exact absurd rfl h | rfl

theorem State.regA_setR16Stk_af (v : Word) : (s.setR16Stk .af v).regA = hiByte v := hiByte_wordOf _ _

/-- A word written to AF gives F its low byte without the low nibble (R34, R225). -/
theorem State.regF_setR16Stk_af (v : Word) : (s.setR16Stk .af v).regF = loByte v &&& 0xF0#8 := loByte_wordOf _ _

theorem State.flagsAre_setR16Stk_af (v : Word) :
    FlagsAre (s.setR16Stk .af v) ((loByte v).getLsbD 7) ((loByte v).getLsbD 6) ((loByte v).getLsbD 5)
      ((loByte v).getLsbD 4) := by
  have hbit (k : Nat) (hk : (0xF0#8).getLsbD k = true) :
      (s.setR16Stk .af v).regF.getLsbD k = (loByte v).getLsbD k := by
    rw [State.regF_setR16Stk_af, BitVec.getLsbD_and, hk, Bool.and_true]
  refine ⟨hbit 7 rfl, hbit 6 rfl, hbit 5 rfl, hbit 4 rfl, ?_⟩
  rw [State.regF_setR16Stk_af]
  exact lowNibble_of_highNibble _

end

/-! ### Effects that are one write to the state (41_loads.md) -/

section
variable {i : Instr} {s : State}

theorem loadsR8_of_exec {r : R8} {v : Byte} (h : exec i s = .next (s.setR8 r v)) : LoadsR8 i s r v :=
  ⟨_, h, s.r8_setR8_same r v, s.sameR8But_setR8 r v, s.regF_setR8 r v, s.sameControl_setR8 r v,
    (s.onlyCpu_setR8 r v).storesNothing⟩

theorem storesR8_of_exec {a : Word} {v : Byte} (h : exec i s = .next (memWrite s a v)) : StoresR8 i s a v :=
  ⟨_, h, storesByte_memWrite s a v, memWrite_cpu s a v⟩

theorem loadsR16_of_exec {rr : R16} {v : Word} (h : exec i s = .next (s.setR16 rr v)) : LoadsR16 i s rr v :=
  ⟨_, h, s.r16_setR16_same rr v, fun _ hx => s.r16_setR16_other hx v, s.setR16_af rr v, s.setR16_pc rr v,
    s.setR16_ime rr v, s.setR16_prefixOp rr v, (s.onlyCpu_setR16 rr v).storesNothing⟩

/-- A load of A at HL that moves HL reads at HL as it was (R217, R218). -/
theorem makesCpu_of_ldAFromHlStep {d : Word} (h : exec i s = ldAFromHlStep d s) :
    MakesCpu i s { s.cpu with af := wordOf (directRead s s.cpu.hl) s.regF, hl := s.cpu.hl + d } :=
  ⟨_, h, rfl, ((s.onlyCpu_setR8 .a _).trans (State.onlyCpu_setCpu _ _)).storesNothing⟩

/-- A store of A at HL that moves HL stores at HL as it was (R219, R220). -/
theorem storesAndMakesCpu_of_ldAIntoHlStep {d : Word} (h : exec i s = ldAIntoHlStep d s) :
    StoresAndMakesCpu i s s.cpu.hl s.regA { s.cpu with hl := s.cpu.hl + d } := by
  refine ⟨_, h, (storesByte_memWrite s s.cpu.hl s.regA).onlyCpu (State.onlyCpu_setCpu _ _), ?_⟩
  rw [State.setHl, State.setCpu_cpu, memWrite_cpu]

end

/-! ### LD r,r'; LD r,n8; LD r,(HL); LD (HL),r; LD (HL),n8 (R202 to R206) -/

theorem row_formLdRR (dst r : R8) : Row (formLdRR dst r) false (0x40 + 8 * codeR8 dst + codeR8 r) [] 1 1 := by
  cases dst <;> cases r <;> exact row_unprefixed rfl rfl

theorem row_formLdRN8 (dst : R8) (n8 : Byte) : Row (formLdRN8 dst n8) false (0x06 + 8 * codeR8 dst) [n8] 2 2 := by
  cases dst <;> exact row_unprefixed rfl rfl

theorem row_formLdRAtHl (dst : R8) : Row (formLdRAtHl dst) false (0x46 + 8 * codeR8 dst) [] 2 2 := by
  cases dst <;> exact row_unprefixed rfl rfl

theorem row_formLdAtHlR (r : R8) : Row (formLdAtHlR r) false (0x70 + codeR8 r) [] 2 2 := by
  cases r <;> exact row_unprefixed rfl rfl

/-- Settles O6: each form is one register write or one mediated write of the state before it, so a load to H or L reads at the
HL before the write. -/
theorem loadsAndStoresOfR8AndHl : Obligations.LoadsAndStoresOfR8AndHl := by
  intro s dst r n8
  refine ⟨⟨row_formLdRR dst r, ?_⟩, ⟨row_formLdRN8 dst n8, ?_⟩, ⟨row_formLdRAtHl dst, ?_⟩, ⟨row_formLdAtHlR r, ?_⟩,
    ⟨row_unprefixed rfl rfl, ?_⟩⟩
  · exact loadsR8_of_exec (exec_formLdRR s dst r)
  · exact loadsR8_of_exec (exec_formLdRN8 s dst n8)
  · exact loadsR8_of_exec (exec_formLdRAtHl s dst)
  · exact storesR8_of_exec (exec_formLdAtHlR s r)
  · exact storesR8_of_exec rfl

/-! ### LD rr,n16; LD (n16),SP; LD SP,HL (R221 to R223) -/

theorem row_formLdRrN16 (rr : R16) (n16 : Word) :
    Row (formLdRrN16 rr n16) false (0x01 + 16 * codeR16 rr) (le16 n16) 3 3 := by
  cases rr <;> exact row_unprefixed rfl rfl

/-- Settles O10: the pair loads are one pair write each, LD (n16),SP one mediated write of a word. -/
theorem loads16 : Obligations.Loads16 := by
  intro s rr n16
  refine ⟨⟨row_formLdRrN16 rr n16, ?_⟩, ⟨row_unprefixed rfl rfl, ?_⟩, ⟨row_unprefixed rfl rfl, ?_⟩⟩
  · exact loadsR16_of_exec (exec_formLdRrN16 s rr n16)
  · exact ⟨_, rfl, storesWord_memWrite16 s n16 s.cpu.sp, memWrite16_cpu s n16 s.cpu.sp⟩
  · exact loadsR16_of_exec rfl

/-! ### POP rr, POP AF, PUSH rr (R224 to R226) -/

theorem row_formPop (rr : R16Stk) : Row (formPop rr) false (0xC1 + 16 * codeR16Stk rr) [] 3 3 := by
  cases rr <;> exact row_unprefixed rfl rfl

theorem row_formPush (rr : R16Stk) : Row (formPush rr) false (0xC5 + 16 * codeR16Stk rr) [] 4 4 := by
  cases rr <;> exact row_unprefixed rfl rfl

/-- The stack pointer is none of the pairs a pop writes. -/
theorem r16Stk_popState (s : State) (x : R16Stk) : (popState s).r16Stk x = s.r16Stk x := by cases x <;> rfl

/-- Settles O11: a pop moves SP and then writes the popped word to the pair, with AF's low nibble masked; a push is one mediated
write of a word at the moved SP. -/
theorem pushAndPop : Obligations.PushAndPop := by
  intro s rr
  have hsp : OnlyCpu s (popState s) := s.onlyCpu_setCpu _
  refine ⟨⟨row_formPop rr, (popState s).setR16Stk rr (topOfStack s), exec_formPop s rr, ?_, ?_, fun x hx => ?_, ?_, ?_, ?_,
    ?_, ?_⟩, row_formPush rr, push16 s (s.r16Stk rr), exec_formPush s rr, storesWord_push16 s _, push16_cpu s _⟩
  · exact fun hrr => State.r16Stk_setR16Stk_same _ hrr _
  · rintro rfl
    exact ⟨State.regA_setR16Stk_af _ _, State.flagsAre_setR16Stk_af _ _⟩
  · rw [State.r16Stk_setR16Stk_other _ hx, r16Stk_popState]
  · exact State.setR16Stk_sp _ rr _
  · exact State.setR16Stk_pc _ rr _
  · exact State.setR16Stk_ime _ rr _
  · exact State.setR16Stk_prefixOp _ rr _
  · exact (hsp.trans (State.onlyCpu_setR16Stk _ rr _)).storesNothing

/-! ### The accumulator's loads and stores (R207 to R220) -/

/-- The high-page address is 0xFF00 plus the byte: their bits are apart (R130). -/
theorem highPage_eq (v : Byte) : highPage v = BitVec.ofNat 16 (0xFF00 + v.toNat) := by
  have hor : 0xFF00 + v.toNat = 0xFF00 ||| v.toNat := Nat.shiftLeft_add_eq_or_of_lt v.isLt 0xFF
  rw [hor, BitVec.ofNat_or, BitVec.ofNat_toNat]
  rfl

theorem memRead_highPage (s : State) (v : Byte) : memRead s (highPage v) = byteAt s (0xFF00 + v.toNat) := by
  rw [highPage_eq]; rfl

/-- Settles O7: each form loads A from its address, the high-page ones from 0xFF00 plus the byte. -/
theorem accumulatorLoads : Obligations.AccumulatorLoads := by
  intro s n8 n16
  rw [← memRead_highPage s (s.r8 .c), ← memRead_highPage s n8]
  exact ⟨⟨row_unprefixed rfl rfl, loadsR8_of_exec rfl⟩, ⟨row_unprefixed rfl rfl, loadsR8_of_exec rfl⟩,
    ⟨row_unprefixed rfl rfl, loadsR8_of_exec rfl⟩, ⟨row_unprefixed rfl rfl, loadsR8_of_exec rfl⟩,
    ⟨row_unprefixed rfl rfl, loadsR8_of_exec rfl⟩⟩

/-- Settles O8: each form is the mediated write of A to its address, the high-page ones to 0xFF00 plus the byte. -/
theorem accumulatorStores : Obligations.AccumulatorStores := by
  intro s n8 n16
  rw [← highPage_eq (s.r8 .c), ← highPage_eq n8]
  exact ⟨⟨row_unprefixed rfl rfl, storesR8_of_exec rfl⟩, ⟨row_unprefixed rfl rfl, storesR8_of_exec rfl⟩,
    ⟨row_unprefixed rfl rfl, storesR8_of_exec rfl⟩, ⟨row_unprefixed rfl rfl, storesR8_of_exec rfl⟩,
    ⟨row_unprefixed rfl rfl, storesR8_of_exec rfl⟩⟩

/-- Settles O9: the access is at HL before the step of 1 or -1 that HL takes after it. -/
theorem accumulatorLoadsAndStoresThatMoveHl : Obligations.AccumulatorLoadsAndStoresThatMoveHl := by
  intro s
  rw [BitVec.sub_eq_add_neg s.cpu.hl 1]
  exact ⟨⟨row_unprefixed rfl rfl, makesCpu_of_ldAFromHlStep rfl⟩, ⟨row_unprefixed rfl rfl, makesCpu_of_ldAFromHlStep rfl⟩,
    ⟨row_unprefixed rfl rfl, storesAndMakesCpu_of_ldAIntoHlStep rfl⟩,
    ⟨row_unprefixed rfl rfl, storesAndMakesCpu_of_ldAIntoHlStep rfl⟩⟩

end Sys2Proof.Machine

namespace Sys2Proof.Machine

@[simp] theorem r8_memWrite (s : State) (a : Word) (v : Byte) (x : R8) : (memWrite s a v).r8 x = s.r8 x := by
  unfold State.r8
  rw [memWrite_cpu]

/-! ### Effects that end by writing the flags (42_alu8.md) -/

section
variable {i : Instr} {s : State} {g : Flags}

theorem writesR8_of_exec {r : R8} {v : Byte} (h : exec i s = .next ((s.setR8 r v).setFlags g)) :
    WritesR8 i s r v g.z g.n g.h g.c :=
  ⟨_, h, by rw [State.r8_setFlags, State.r8_setR8_same], State.flagsAre_setFlags _ g,
    fun x hx => by rw [State.r8_setFlags, State.r8_setR8_other s hx], s.sameControl_setR8 r v,
    ((s.onlyCpu_setR8 r v).trans (State.onlyCpu_setFlags _ g)).storesNothing⟩

/-- Writing A is writing the register A (R31). -/
theorem writesA_of_exec {v : Byte} (h : exec i s = .next ((s.setR8 .a v).setFlags g)) : WritesA i s v g.z g.n g.h g.c :=
  writesR8_of_exec h

theorem writesFlags_of_exec (h : exec i s = .next (s.setFlags g)) : WritesFlags i s g.z g.n g.h g.c :=
  ⟨_, h, s.flagsAre_setFlags g, s.sameR8_setFlags g, s.sameControl_setFlags g, (s.onlyCpu_setFlags g).storesNothing⟩

/-- The flags are written whatever the mediated write does with the byte (R268, R270). -/
theorem writesAtHl_of_exec {v : Byte} (h : exec i s = .next ((memWrite s s.cpu.hl v).setFlags g)) :
    WritesAtHl i s v g.z g.n g.h g.c := by
  have hcontrol := (memWrite s s.cpu.hl v).sameControl_setFlags g
  rw [SameControl, memWrite_cpu] at hcontrol
  exact ⟨_, h, (storesByte_memWrite s s.cpu.hl v).onlyCpu (State.onlyCpu_setFlags _ g), State.flagsAre_setFlags _ g,
    fun x => by rw [State.r8_setFlags, r8_memWrite], hcontrol⟩

end

/-! ### The ALU operations in whole numbers (R240 to R242) -/

theorem lowNibble_toNat (v : Byte) : (v &&& 0x0F#8).toNat = v.toNat % 16 := by
  rw [BitVec.toNat_and]
  exact Nat.and_two_pow_sub_one_eq_mod v.toNat 4

theorem ofNat8_eq_zero_iff (n : Nat) : BitVec.ofNat 8 n = 0 ↔ n % 256 = 0 := by
  rw [BitVec.toNat_eq, BitVec.toNat_ofNat]; rfl

theorem ofInt8_eq_zero_iff (k : Int) : BitVec.ofInt 8 k = 0 ↔ k % 256 = 0 := by
  rw [BitVec.toNat_eq, BitVec.toNat_ofInt]
  show (k % 256).toNat = 0 ↔ _
  omega

theorem add8_eq (a b : Byte) (c : Bool) :
    add8 a b c = (BitVec.ofNat 8 (a.toNat + b.toNat + c.toNat),
      ⟨decide ((a.toNat + b.toNat + c.toNat) % 256 = 0), false,
        decide (15 < a.toNat % 16 + b.toNat % 16 + c.toNat), decide (255 < a.toNat + b.toNat + c.toNat)⟩) := by
  simp only [add8, lowNibble_toNat, beq_eq_decide, ofNat8_eq_zero_iff, gt_iff_lt]

theorem sub8_eq (a b : Byte) (c : Bool) :
    sub8 a b c = (BitVec.ofInt 8 ((a.toNat : Int) - b.toNat - c.toNat),
      ⟨decide (((a.toNat : Int) - b.toNat - c.toNat) % 256 = 0), true,
        decide (a.toNat % 16 < b.toNat % 16 + c.toNat), decide (a.toNat < b.toNat + c.toNat)⟩) := by
  have hborrow : (a.toNat : Int) - b.toNat - c.toNat < 0 ↔ a.toNat < b.toNat + c.toNat := by omega
  simp only [sub8, lowNibble_toNat, beq_eq_decide, ofInt8_eq_zero_iff, hborrow]

/-- Two bytes differ by less than 256, so the difference without a borrow is 0 modulo 256 only when they are equal. -/
theorem sub8_false (a b : Byte) :
    sub8 a b false = (BitVec.ofInt 8 ((a.toNat : Int) - b.toNat),
      ⟨decide (a.toNat = b.toNat), true, decide (a.toNat % 16 < b.toNat % 16), decide (a.toNat < b.toNat)⟩) := by
  have hzero : ((a.toNat : Int) - b.toNat) % 256 = 0 ↔ a.toNat = b.toNat := by
    have ha := a.isLt
    have hb := b.isLt
    omega
  simp only [sub8_eq, Bool.toNat_false, Int.ofNat_zero, Int.sub_zero, Nat.add_zero, hzero]

theorem add8_value (a b : Byte) : (add8 a b false).1 = a + b := by
  simp only [add8, Bool.toNat_false, Nat.add_zero, BitVec.ofNat_add, BitVec.ofNat_toNat, BitVec.setWidth_eq]

theorem ofInt_toNat_sub (a : Byte) (k : Int) : BitVec.ofInt 8 ((a.toNat : Int) - k) = a - BitVec.ofInt 8 k := by
  rw [Int.sub_eq_add_neg, BitVec.ofInt_add, BitVec.ofInt_neg, BitVec.ofInt_natCast, BitVec.ofNat_toNat,
    BitVec.setWidth_eq, ← BitVec.sub_eq_add_neg]

theorem sub8_value (a b : Byte) : (sub8 a b false).1 = a - b := by
  rw [sub8_false, ofInt_toNat_sub, BitVec.ofInt_natCast, BitVec.ofNat_toNat, BitVec.setWidth_eq]

/-! ### ADD, ADC, SUB, SBC, AND, XOR, OR, CP (R243 to R266) -/

theorem aluRow (op : AluOp) (src : AluSource) : AluRow op src := by
  cases src
  case reg r => cases op <;> cases r <;> exact row_unprefixed rfl rfl
  case atHl => cases op <;> exact row_unprefixed rfl rfl
  case imm n8 => cases op <;> exact row_unprefixed rfl rfl

theorem aluOn_of_ne_cp {op : AluOp} (h : op ≠ .cp) (b : Byte) (s : State) :
    aluOn op b s = .next ((s.setR8 .a (alu8 op s.regA b s.cf).1).setFlags (alu8 op s.regA b s.cf).2) := by
  cases op
  case cp => exact absurd rfl h
  all_goals rfl

/-- Every ALU operation but CP writes A and the flags of its helper (R243 to R263). -/
theorem writesA_of_alu8 {op : AluOp} {src : AluSource} {s : State} {v : Byte} {z n h c : Bool} (hop : op ≠ .cp)
    (hv : alu8 op s.regA (src.value s) s.cf = (v, ⟨z, n, h, c⟩)) : WritesA (src.instr op) s v z n h c := by
  have hexec := (exec_aluInstr s op src).trans (aluOn_of_ne_cp hop _ s)
  rw [hv] at hexec
  exact writesA_of_exec hexec

theorem exec_cp (s : State) (src : AluSource) :
    exec (src.instr .cp) s = .next (s.setFlags (sub8 s.regA (src.value s) false).2) := exec_aluInstr s .cp src

/-- Settles O12: both are Add8, ADD with carry 0 and ADC with the carry flag. -/
theorem addAndAdc : Obligations.AddAndAdc := fun s src =>
  ⟨⟨aluRow .add src, writesA_of_alu8 (by decide) (add8_eq s.regA (src.value s) false)⟩,
    ⟨aluRow .adc src, writesA_of_alu8 (by decide) (add8_eq s.regA (src.value s) s.cf)⟩⟩

/-- Settles O13: both are Sub8, SUB with borrow 0 and SBC with the carry flag. -/
theorem subAndSbc : Obligations.SubAndSbc := fun s src =>
  ⟨⟨aluRow .sub src, writesA_of_alu8 (by decide) (sub8_false s.regA (src.value s))⟩,
    ⟨aluRow .sbc src, writesA_of_alu8 (by decide) (sub8_eq s.regA (src.value s) s.cf)⟩⟩

/-- Settles O14: the helpers of R242, whose N, H and C are constants. -/
theorem andXorOr : Obligations.AndXorOr := fun _ src =>
  ⟨⟨aluRow .and src, writesA_of_alu8 (by decide) rfl⟩, ⟨aluRow .xor src, writesA_of_alu8 (by decide) rfl⟩,
    ⟨aluRow .or src, writesA_of_alu8 (by decide) rfl⟩⟩

/-- Settles O15: CP writes the flags of Sub8 with borrow 0 and no register. -/
theorem compare : Obligations.Compare := by
  intro s src
  have hexec := exec_cp s src
  rw [sub8_false] at hexec
  exact ⟨aluRow .cp src, writesFlags_of_exec hexec⟩

/-! ### INC and DEC (R267 to R270) -/

theorem inc8_eq (v : Byte) (c : Bool) :
    inc8 v c = (v + 1, ⟨decide (v.toNat = 255), false, decide (v.toNat % 16 = 15), c⟩) := by
  have hzero : v + 1 = 0 ↔ v.toNat = 255 := by bv_omega
  have hhalf : v &&& 0x0F#8 = 0x0F#8 ↔ v.toNat % 16 = 15 := by rw [BitVec.toNat_eq, lowNibble_toNat]; rfl
  simp only [inc8, beq_eq_decide, hzero, hhalf]

theorem dec8_eq (v : Byte) (c : Bool) :
    dec8 v c = (v - 1, ⟨decide (v.toNat = 1), true, decide (v.toNat % 16 = 0), c⟩) := by
  have hzero : v - 1 = 0 ↔ v.toNat = 1 := by bv_omega
  have hhalf : v &&& 0x0F#8 = 0x00#8 ↔ v.toNat % 16 = 0 := by rw [BitVec.toNat_eq, lowNibble_toNat]; rfl
  simp only [dec8, beq_eq_decide, hzero, hhalf]

theorem row_formIncR (r : R8) : Row (formIncR r) false (0x04 + 8 * codeR8 r) [] 1 1 := by
  cases r <;> exact row_unprefixed rfl rfl

theorem row_formDecR (r : R8) : Row (formDecR r) false (0x05 + 8 * codeR8 r) [] 1 1 := by
  cases r <;> exact row_unprefixed rfl rfl

/-- Settles O16: the register and the flags are those of the helper given the carry flag. -/
theorem incAndDecOfRegisters : Obligations.IncAndDecOfRegisters := by
  intro s r
  have hinc := exec_formIncR s r
  have hdec := exec_formDecR s r
  rw [incReg, inc8_eq] at hinc
  rw [decReg, dec8_eq] at hdec
  exact ⟨⟨row_formIncR r, writesR8_of_exec hinc⟩, ⟨row_formDecR r, writesR8_of_exec hdec⟩⟩

/-- Settles O17: the byte computed is stored by the mediated write, and its flags are written after. -/
theorem incAndDecAtHl : Obligations.IncAndDecAtHl := by
  intro s
  have hinc : exec .incAtHl s = execIncAtHl s := rfl
  have hdec : exec .decAtHl s = execDecAtHl s := rfl
  rw [execIncAtHl, memRead_eq, inc8_eq] at hinc
  rw [execDecAtHl, memRead_eq, dec8_eq] at hdec
  exact ⟨⟨row_unprefixed rfl rfl, writesAtHl_of_exec hinc⟩, ⟨row_unprefixed rfl rfl, writesAtHl_of_exec hdec⟩⟩

/-! ### DAA (R271) -/

/-- Whether DAA corrects the high digit; also its new carry (R271). -/
def daaHigh (a : Byte) (g : Flags) : Bool := g.c || (!g.n && decide (0x99 < a.toNat))

/-- Whether DAA corrects the low digit (R271). -/
def daaLow (a : Byte) (g : Flags) : Bool := g.h || (!g.n && decide (9 < a.toNat % 16))

/-- The sum of DAA's two corrections. -/
def daaCorrection (a : Byte) (g : Flags) : Int := (if daaHigh a g then 0x60 else 0) + (if daaLow a g then 0x06 else 0)

/-- A with both corrections added or subtracted, in whole numbers. -/
def daaResult (a : Byte) (g : Flags) : Byte :=
  BitVec.ofInt 8 (if g.n then (a.toNat : Int) - daaCorrection a g else a.toNat + daaCorrection a g)

/-- The two corrections, made one after the other, are their sum modulo 256 (R271). -/
theorem ofInt_daaCorrection (a : Byte) (g : Flags) :
    BitVec.ofInt 8 (daaCorrection a g) = (if daaHigh a g then 0x60#8 else 0#8) + (if daaLow a g then 0x06#8 else 0#8) := by
  rw [daaCorrection]
  cases daaHigh a g <;> cases daaLow a g <;> rfl

theorem daaResult_of_sub {g : Flags} (h : g.n = true) (a : Byte) :
    daaResult a g = a - BitVec.ofInt 8 (daaCorrection a g) := by
  rw [daaResult, h]
  exact ofInt_toNat_sub a _

theorem daaResult_of_add {g : Flags} (h : g.n = false) (a : Byte) :
    daaResult a g = a + BitVec.ofInt 8 (daaCorrection a g) := by
  rw [daaResult, h, if_neg Bool.false_ne_true, BitVec.ofInt_add, BitVec.ofInt_natCast, BitVec.ofNat_toNat,
    BitVec.setWidth_eq]

theorem subtract_corrections (a : Byte) (high low : Bool) :
    (if low then (if high then a - 0x60#8 else a) - 0x06#8 else if high then a - 0x60#8 else a)
      = a - ((if high then 0x60#8 else 0#8) + (if low then 0x06#8 else 0#8)) := by
  cases high <;> cases low <;> simp [sub_sub]

theorem add_corrections (a : Byte) (high low : Bool) :
    (if low then (if high then a + 0x60#8 else a) + 0x06#8 else if high then a + 0x60#8 else a)
      = a + ((if high then 0x60#8 else 0#8) + (if low then 0x06#8 else 0#8)) := by
  cases high <;> cases low <;> simp [BitVec.add_assoc]

/-- The high correction is a multiple of 16, so the low digit the rule tests after it is the one before it. -/
theorem lowNibble_highCorrected (a : Byte) (high : Bool) :
    ((if high then a + 0x60#8 else a) &&& 0x0F#8).toNat = a.toNat % 16 := by
  rw [lowNibble_toNat]
  cases high
  · rfl
  · show (a.toNat + 96) % 256 % 16 = _
    omega

/-- DAA on both of its paths: after a subtraction it tests the flags only, after an addition the digits too (R271). -/
theorem daa8_eq (a : Byte) (g : Flags) :
    daa8 a g = (daaResult a g, ⟨decide (daaResult a g = 0), g.n, false, daaHigh a g⟩) := by
  cases hn : g.n
  case true =>
    have hhigh : daaHigh a g = g.c := by simp [daaHigh, hn]
    have hlow : daaLow a g = g.h := by simp [daaLow, hn]
    rw [daaResult_of_sub hn, ofInt_daaCorrection, hhigh, hlow, ← subtract_corrections, daa8, if_pos hn]
    rfl
  case false =>
    have hhigh : daaHigh a g = (g.c || decide (a.toNat > 0x99)) := by simp [daaHigh, hn]
    have hlow : daaLow a g = (g.h || decide (a.toNat % 16 > 0x09)) := by simp [daaLow, hn]
    rw [daaResult_of_add hn, ofInt_daaCorrection, hhigh, hlow, ← add_corrections, daa8, hn, if_neg Bool.false_ne_true]
    simp only [lowNibble_highCorrected]
    rfl

/-- Settles O18: the corrections and the carry are the helper's, given A and the flags as they stand. -/
theorem decimalAdjust : Obligations.DecimalAdjust := by
  intro s
  have hexec : exec .daa s = execDaa s := rfl
  rw [execDaa, daa8_eq] at hexec
  exact ⟨row_unprefixed rfl rfl, writesA_of_exec hexec⟩

/-! ### Packed decimal addition (R240, R271) -/

/-- The byte that packs the two decimal digits of `n`. -/
def packedDecimal (n : Nat) : Byte := BitVec.ofNat 8 (16 * (n / 10) + n % 10)

/-- The whole sum of two packed bytes, before it is cut to a byte: each ten counts 16. -/
def packedSum (x y : Nat) : Nat := x + y + 6 * (x / 10 + y / 10)

section
variable {x y : Nat} (hx : x < 100) (hy : y < 100)

theorem packedDecimal_toNat (h : x < 100) : (packedDecimal x).toNat = x + 6 * (x / 10) := by
  rw [packedDecimal, BitVec.toNat_ofNat]
  omega

/-- The packed sum passes 0x99 exactly when the decimal sum passes 99. -/
theorem packedSum_gt_iff (x y : Nat) : 0x99 < packedSum x y ↔ 100 ≤ x + y := by
  rw [packedSum]
  by_cases htens : x / 10 + y / 10 ≤ 9 <;> omega

include hx hy

theorem add8_packedDecimal :
    add8 (packedDecimal x) (packedDecimal y) false = (BitVec.ofNat 8 (packedSum x y),
      ⟨decide (packedSum x y % 256 = 0), false, decide (15 < x % 10 + y % 10), decide (255 < packedSum x y)⟩) := by
  have hsum : (packedDecimal x).toNat + (packedDecimal y).toNat = packedSum x y := by
    rw [packedDecimal_toNat hx, packedDecimal_toNat hy, packedSum]
    omega
  have hlow : (packedDecimal x).toNat % 16 + (packedDecimal y).toNat % 16 = x % 10 + y % 10 := by
    rw [packedDecimal_toNat hx, packedDecimal_toNat hy]
    omega
  rw [add8_eq, Bool.toNat_false, Nat.add_zero, Nat.add_zero, hsum, hlow]

/-- After the addition, DAA corrects the high digit exactly when the decimal sum does not fit two digits. -/
theorem daaHigh_add8_packedDecimal :
    daaHigh (add8 (packedDecimal x) (packedDecimal y) false).1 (add8 (packedDecimal x) (packedDecimal y) false).2
      = decide (100 ≤ x + y) := by
  rw [add8_packedDecimal hx hy, Bool.eq_iff_iff]
  simp only [daaHigh, BitVec.toNat_ofNat, Bool.or_eq_true, Bool.not_false, Bool.true_and, decide_eq_true_eq,
    ← packedSum_gt_iff]
  omega

/-- After the addition, DAA corrects the low digit exactly when the sum of the low digits is no digit. -/
theorem daaLow_add8_packedDecimal :
    daaLow (add8 (packedDecimal x) (packedDecimal y) false).1 (add8 (packedDecimal x) (packedDecimal y) false).2
      = decide (10 ≤ x % 10 + y % 10) := by
  rw [add8_packedDecimal hx hy, Bool.eq_iff_iff]
  simp only [daaLow, BitVec.toNat_ofNat, Bool.or_eq_true, Bool.not_false, Bool.true_and, decide_eq_true_eq]
  rw [packedSum]
  omega

theorem daaResult_add8_packedDecimal :
    daaResult (add8 (packedDecimal x) (packedDecimal y) false).1 (add8 (packedDecimal x) (packedDecimal y) false).2
      = packedDecimal ((x + y) % 100) := by
  have hn : (add8 (packedDecimal x) (packedDecimal y) false).2.n = false := rfl
  rw [daaResult_of_add hn, ofInt_daaCorrection, daaHigh_add8_packedDecimal hx hy, daaLow_add8_packedDecimal hx hy,
    add8_packedDecimal hx hy]
  apply BitVec.eq_of_toNat_eq
  rw [packedDecimal_toNat (Nat.mod_lt _ (by decide))]
  simp only [decide_eq_true_eq, BitVec.toNat_add, BitVec.toNat_ofNat, apply_ite BitVec.toNat, packedSum]
  split_ifs <;> omega

end

/-- Settles O19: DAA carries from the low digit past 9 and from the sum past 99. -/
theorem daaAfterAddIsTheDecimalSum : Obligations.DaaAfterAddIsTheDecimalSum := by
  intro x y hx hy bcd sum
  rw [daa8_eq]
  exact ⟨daaResult_add8_packedDecimal hx hy, daaHigh_add8_packedDecimal hx hy⟩

/-! ### CPL, SCF, CCF (R272 to R274) -/

/-- Settles O20: each writes the flags it names into the flags as they stand. -/
theorem complementAndCarry : Obligations.ComplementAndCarry := by
  intro s
  have hcomplement : s.regA ^^^ 0xFF#8 = ~~~s.regA := BitVec.xor_allOnes
  have hcpl : exec .cpl s = execCpl s := rfl
  have hscf : exec .scf s = execScf s := rfl
  have hccf : exec .ccf s = execCcf s := rfl
  rw [execCpl, hcomplement] at hcpl
  exact ⟨⟨row_unprefixed rfl rfl, writesA_of_exec hcpl⟩, ⟨row_unprefixed rfl rfl, writesFlags_of_exec hscf⟩,
    ⟨row_unprefixed rfl rfl, writesFlags_of_exec hccf⟩⟩

/-! ### Laws (R275) -/

theorem exec_alu_regA {op : AluOp} {src : AluSource} {s t : State} (hop : op ≠ .cp) (h : exec (src.instr op) s = .next t) :
    t.regA = (alu8 op s.regA (src.value s) s.cf).1 := by
  rw [exec_aluInstr, aluOn_of_ne_cp hop] at h
  rw [← next_inj h, State.regA_eq, State.r8_setFlags, State.r8_setR8_same]

theorem exec_alu_regF {op : AluOp} {src : AluSource} {s t : State} (h : exec (src.instr op) s = .next t) :
    t.regF = flagByte (alu8 op s.regA (src.value s) s.cf).2 := by
  rw [exec_aluInstr] at h
  cases op <;> rw [← next_inj h, State.regF_setFlags]

theorem exec_cp_regA {src : AluSource} {s t : State} (h : exec (src.instr .cp) s = .next t) : t.regA = s.regA := by
  rw [exec_cp] at h
  rw [← next_inj h, State.regA_eq, State.r8_setFlags, State.regA_eq]

theorem exec_formIncR_r8 {r : R8} {s t : State} (h : exec (formIncR r) s = .next t) : t.r8 r = s.r8 r + 1 := by
  rw [exec_formIncR] at h
  rw [← next_inj h, State.r8_setFlags, State.r8_setR8_same, inc8]

theorem exec_formDecR_r8 {r : R8} {s t : State} (h : exec (formDecR r) s = .next t) : t.r8 r = s.r8 r - 1 := by
  rw [exec_formDecR] at h
  rw [← next_inj h, State.r8_setFlags, State.r8_setR8_same, dec8]

theorem alu8_xor_self (a : Byte) (c : Bool) : alu8 .xor a a c = (0#8, ⟨true, false, false, false⟩) := by
  rw [alu8, xor8, BitVec.xor_self]
  rfl

/-- Settles O21: CP and SUB share Sub8's flags; the others are laws of the bytes they write. -/
theorem lawsOf8BitArithmetic : Obligations.LawsOf8BitArithmetic := by
  intro s src r n8
  refine ⟨fun t u ht hu => ?_, fun t u ht hu => ?_, fun t ht => ?_, fun t u ht hu => ?_⟩
  · exact ⟨(exec_alu_regF ht).trans (exec_alu_regF hu).symm, exec_cp_regA ht⟩
  · have hadd : t.regA = s.regA + n8 := (exec_alu_regA (src := .imm n8) (op := .add) (by decide) ht).trans (add8_value _ _)
    have hsub : u.regA = t.regA - n8 := (exec_alu_regA (src := .imm n8) (op := .sub) (by decide) hu).trans (sub8_value _ _)
    rw [hsub, hadd, BitVec.add_sub_cancel]
  · have ha := exec_alu_regA (src := .reg .a) (op := .xor) (by decide) ht
    have hf := exec_alu_regF (src := .reg .a) (op := .xor) ht
    rw [AluSource.value, ← State.regA_eq, alu8_xor_self] at ha hf
    exact ⟨ha, hf⟩
  · rw [exec_formIncR_r8 hu, exec_formDecR_r8 ht, BitVec.sub_add_cancel]

end Sys2Proof.Machine

namespace Sys2Proof.Machine

/-! ### INC rr and DEC rr (43_alu16.md R281, R282) -/

theorem row_formIncRr (rr : R16) : Row (formIncRr rr) false (0x03 + 16 * codeR16 rr) [] 2 2 := by
  cases rr <;> exact row_unprefixed rfl rfl

theorem row_formDecRr (rr : R16) : Row (formDecRr rr) false (0x0B + 16 * codeR16 rr) [] 2 2 := by
  cases rr <;> exact row_unprefixed rfl rfl

/-- Settles O22: both are one pair write of the pair plus 1 or -1, and no flag is written. -/
theorem incAndDecOfPairs : Obligations.IncAndDecOfPairs := by
  intro s rr
  rw [BitVec.sub_eq_add_neg (s.r16 rr) 1]
  exact ⟨⟨row_formIncRr rr, loadsR16_of_exec (exec_formIncRr s rr)⟩,
    ⟨row_formDecRr rr, loadsR16_of_exec (exec_formDecRr s rr)⟩⟩

/-! ### Effects that write HL or SP and then the flags (R283 to R285) -/

/-- `i` writes `v` to HL and the four flags and changes nothing else. -/
def WritesHl (i : Instr) (s : State) (v : Word) (z n h c : Bool) : Prop :=
  ∃ t, exec i s = .next t ∧ t.cpu.hl = v ∧ FlagsAre t z n h c ∧ t.regA = s.regA ∧ t.cpu.bc = s.cpu.bc
    ∧ t.cpu.de = s.cpu.de ∧ SameControl s t ∧ StoresNothing s t

/-- `i` writes `v` to SP and the four flags and changes nothing else. -/
def MovesSp (i : Instr) (s : State) (v : Word) (z n h c : Bool) : Prop :=
  ∃ t, exec i s = .next t ∧ t.cpu.sp = v ∧ FlagsAre t z n h c ∧ SameR8 s t ∧ t.cpu.pc = s.cpu.pc
    ∧ t.cpu.ime = s.cpu.ime ∧ t.cpu.prefixOp = s.cpu.prefixOp ∧ StoresNothing s t

section
variable {i : Instr} {s : State} {v : Word} {g : Flags}

/-- The flags are in AF's low byte, so writing them leaves A and the pair written before them. -/
theorem writesHl_of_exec (h : exec i s = .next ((s.setHl v).setFlags g)) : WritesHl i s v g.z g.n g.h g.c :=
  ⟨_, h, rfl, State.flagsAre_setFlags _ g, State.r8_setFlags _ g .a, rfl, rfl,
    (s.sameControl_setHl v).trans (State.sameControl_setFlags _ g),
    ((s.onlyCpu_setCpu _).trans (State.onlyCpu_setFlags _ g)).storesNothing⟩

/-- SP is no part of an 8-bit register (R31). -/
theorem movesSp_of_exec (h : exec i s = .next ((s.setSp v).setFlags g)) : MovesSp i s v g.z g.n g.h g.c :=
  ⟨_, h, rfl, State.flagsAre_setFlags _ g, fun x => by rw [State.r8_setFlags]; cases x <;> rfl, rfl, rfl, rfl,
    ((s.onlyCpu_setCpu _).trans (State.onlyCpu_setFlags _ g)).storesNothing⟩

end

/-! ### The 16-bit additions in whole numbers (R280, R283) -/

/-- Masking a word's low `k` bits is its remainder modulo 2^k. -/
theorem lowBits_toNat (v : Word) {k : Nat} (hk : k ≤ 16) :
    (v &&& BitVec.ofNat 16 (2 ^ k - 1)).toNat = v.toNat % 2 ^ k := by
  have hmask : 2 ^ k - 1 < 2 ^ 16 :=
    (Nat.sub_lt (Nat.two_pow_pos k) Nat.one_pos).trans_le (Nat.pow_le_pow_right (by decide) hk)
  rw [BitVec.toNat_and, BitVec.toNat_ofNat, Nat.mod_eq_of_lt hmask, Nat.and_two_pow_sub_one_eq_mod]

theorem addHl16_eq (hl v : Word) (z : Bool) :
    addHl16 hl v z = (BitVec.ofNat 16 (hl.toNat + v.toNat),
      ⟨z, false, decide (4095 < hl.toNat % 4096 + v.toNat % 4096), decide (65535 < hl.toNat + v.toNat)⟩) := by
  have hlow (w : Word) : (w &&& 0x0FFF#16).toNat = w.toNat % 4096 := lowBits_toNat w (k := 12) (by decide)
  simp only [addHl16, hlow, gt_iff_lt]

theorem add_sext16_eq (sp : Word) (u : Byte) : sp + sext16 u = BitVec.ofInt 16 ((sp.toNat : Int) + u.toInt) := by
  rw [BitVec.ofInt_add, BitVec.ofInt_natCast, BitVec.ofNat_toNat, BitVec.setWidth_eq]
  rfl

/-- The result adds the displacement as a signed number, H and C add its byte as an unsigned one (R280). -/
theorem spAdd_eq (sp : Word) (u : Byte) :
    spAdd sp u = (BitVec.ofInt 16 ((sp.toNat : Int) + u.toInt),
      ⟨false, false, decide (15 < sp.toNat % 16 + u.toNat % 16), decide (255 < sp.toNat % 256 + u.toNat)⟩) := by
  have hnibble : (sp &&& 0x000F#16).toNat = sp.toNat % 16 := lowBits_toNat sp (k := 4) (by decide)
  have hbyte : (sp &&& 0x00FF#16).toNat = sp.toNat % 256 := lowBits_toNat sp (k := 8) (by decide)
  simp only [spAdd, add_sext16_eq, hnibble, hbyte, lowNibble_toNat, gt_iff_lt]

/-! ### ADD HL,rr; ADD SP,e8; LD HL,SP+e8 (R283 to R285) -/

theorem row_formAddHlRr (rr : R16) : Row (formAddHlRr rr) false (0x09 + 16 * codeR16 rr) [] 2 2 := by
  cases rr <;> exact row_unprefixed rfl rfl

/-- Settles O23: HL and the flags are those of the helper given the Z flag; HL as its own operand is read before the write. -/
theorem addToHl : Obligations.AddToHl := by
  intro s rr
  have hexec := exec_formAddHlRr s rr
  rw [addHlPair, addHl16_eq] at hexec
  exact ⟨row_formAddHlRr rr, writesHl_of_exec hexec⟩

/-- Settles O24: both write SpAdd's result and flags, the one to SP, the other to HL. -/
theorem stackPointerPlusDisplacement : Obligations.StackPointerPlusDisplacement := by
  intro s e8
  have hadd : exec (.addSpE8 e8) s = execAddSpE8 e8 s := rfl
  have hload : exec (.ldHlSpE8 e8) s = execLdHlSpE8 e8 s := rfl
  rw [execAddSpE8, spAdd_eq] at hadd
  rw [execLdHlSpE8, spAdd_eq] at hload
  exact ⟨⟨row_unprefixed rfl rfl, movesSp_of_exec hadd⟩, ⟨row_unprefixed rfl rfl, writesHl_of_exec hload⟩⟩

end Sys2Proof.Machine

namespace Sys2Proof.Machine

/-! ### The row of a prefixed entry (30_encoding.md R121, R132) -/

/-- A prefixed entry is one byte; its table row charges one M-cycle more under `both_full`. -/
theorem row_prefixed {i : Instr} {op m : Nat} {k : FlagMask} (henc : encodeEntry i = ⟨true, [BitVec.ofNat 8 op]⟩)
    (hrow : descriptor i = cbEntry m (m + 1) k) : Row i true op [] m m := by
  rw [Row, hrow]
  refine ⟨fun rest => ?_, rfl, rfl, rfl, rfl, rfl⟩
  have hd := decode_encodeEntry i rest
  rwa [henc] at hd

/-! ### The rotates and shifts in whole numbers (44_rotate_shift_bit.md R290) -/

/-- Bytes that share no bit: one is a multiple of 2^k, the other is below 2^k. -/
theorem toNat_or_of_apart {x y : Byte} (k : Nat) (hx : 2 ^ k ∣ x.toNat) (hy : y.toNat < 2 ^ k) :
    (x ||| y).toNat = x.toNat + y.toNat := by
  obtain ⟨q, hq⟩ := hx
  rw [BitVec.toNat_or, hq, Nat.two_pow_add_eq_or_of_lt hy]

theorem getLsbD_toNat (v : Byte) (k : Nat) : (v.getLsbD k).toNat = v.toNat / 2 ^ k % 2 := Nat.toNat_testBit _ _

theorem toNat_carryByte (c : Bool) : ((BitVec.ofBool c).setWidth 8).toNat = c.toNat := by cases c <;> rfl

theorem toNat_carryByte_shiftLeft (c : Bool) : ((BitVec.ofBool c).setWidth 8 <<< 7).toNat = c.toNat * 2 ^ 7 := by
  cases c <;> rfl

/-- A left shift takes the bit `c` in at the low end. -/
theorem toNat_shiftLeft_or_carry (v : Byte) (c : Bool) :
    (v <<< 1 ||| (BitVec.ofBool c).setWidth 8).toNat = (2 * v.toNat + c.toNat) % 256 := by
  have hc := c.toNat_lt
  have hv : (v <<< 1).toNat = 2 * v.toNat % 256 := by rw [BitVec.toNat_shiftLeft, Nat.shiftLeft_eq, Nat.mul_comm]
  rw [toNat_or_of_apart 1 (by omega) (by rwa [toNat_carryByte]), hv, toNat_carryByte]
  omega

/-- A right shift takes the bit `c` in at the high end. -/
theorem toNat_shiftRight_or_carry (v : Byte) (c : Bool) :
    (v >>> 1 ||| (BitVec.ofBool c).setWidth 8 <<< 7).toNat = v.toNat / 2 + 128 * c.toNat := by
  have hv : (v >>> 1).toNat = v.toNat / 2 := rfl
  have hc := toNat_carryByte_shiftLeft c
  rw [BitVec.or_comm, toNat_or_of_apart 7 (by omega) (by omega)]
  omega

/-- SRA keeps bit 7 by taking it in again. -/
theorem and_bit7 (v : Byte) : v &&& 0x80#8 = (BitVec.ofBool (v.getLsbD 7)).setWidth 8 <<< 7 := by
  apply BitVec.eq_of_toNat_eq
  rw [BitVec.toNat_and, toNat_carryByte_shiftLeft]
  exact Nat.and_two_pow v.toNat 7

theorem toNat_swap (v : Byte) : (v <<< 4 ||| v >>> 4).toNat = 16 * (v.toNat % 16) + v.toNat / 16 := by
  have hl : (v <<< 4).toNat = 16 * (v.toNat % 16) := by
    rw [BitVec.toNat_shiftLeft, Nat.shiftLeft_eq]
    omega
  have hr : (v >>> 4).toNat = v.toNat / 16 := Nat.shiftRight_eq_div_pow v.toNat 4
  rw [toNat_or_of_apart 4 (by omega) (by omega), hl, hr]

theorem shift8_value (k : ShiftKind) (v : Byte) (c : Bool) :
    (shift8 k v c).1.toNat = shiftedValue k v.toNat c.toNat := by
  have h7 : (v.getLsbD 7).toNat = v.toNat / 128 := by
    rw [getLsbD_toNat]
    omega
  have h0 : (v.getLsbD 0).toNat = v.toNat % 2 := by
    rw [getLsbD_toNat, Nat.pow_zero, Nat.div_one]
  cases k
  case rlc => rw [shift8, toNat_shiftLeft_or_carry, h7, shiftedValue]
  case rrc => rw [shift8, toNat_shiftRight_or_carry, h0, shiftedValue]
  case rl => exact toNat_shiftLeft_or_carry v c
  case rr => exact toNat_shiftRight_or_carry v c
  case sla => rw [shift8, BitVec.toNat_shiftLeft, Nat.shiftLeft_eq, Nat.mul_comm, shiftedValue]
  case sra => rw [shift8, and_bit7, toNat_shiftRight_or_carry, h7, shiftedValue]
  case swap => exact toNat_swap v
  case srl => rfl

theorem shift8_carry (k : ShiftKind) (v : Byte) (c : Bool) : (shift8 k v c).2 = shiftedCarry k v.toNat := by
  have h7 : v.getLsbD 7 = decide (128 ≤ v.toNat) := BitVec.msb_eq_decide v
  have h0 : v.getLsbD 0 = decide (v.toNat % 2 = 1) := Nat.testBit_zero _
  cases k
  case rlc | rl | sla => exact h7
  case rrc | rr | sra | srl => exact h0
  case swap => rfl

/-- The helper's result and carry are the formulas of R290. -/
theorem shift8_eq (k : ShiftKind) (v : Byte) (c : Bool) :
    shift8 k v c = (BitVec.ofNat 8 (shiftedValue k v.toNat c.toNat), shiftedCarry k v.toNat) := by
  rw [← shift8_value, ← shift8_carry k v c, BitVec.ofNat_toNat, BitVec.setWidth_eq]

/-- Z is set when R290's number is 0, for that number fits a byte. -/
theorem shiftFlags_eq (k : ShiftKind) (v : Byte) (c : Bool) :
    shiftFlags k v c = (BitVec.ofNat 8 (shiftedValue k v.toNat c.toNat),
      ⟨decide (shiftedValue k v.toNat c.toNat = 0), false, false, shiftedCarry k v.toNat⟩) := by
  have hlt : shiftedValue k v.toNat c.toNat < 256 := by
    rw [← shift8_value]
    exact BitVec.isLt _
  simp only [shiftFlags, shift8_eq, beq_eq_decide, ofNat8_eq_zero_iff, Nat.mod_eq_of_lt hlt]

/-! ### RLCA, RRCA, RLA, RRA (R291 to R294) -/

theorem writesA_of_rotateA {i : Instr} {k : ShiftKind} {s : State} (h : exec i s = rotateA k s) :
    WritesA i s (BitVec.ofNat 8 (shiftedValue k s.regA.toNat s.cf.toNat)) false false false
      (shiftedCarry k s.regA.toNat) := by
  rw [rotateA, shift8_eq] at h
  exact writesA_of_exec h

/-- Settles O25: each rotates A by the helper and writes Z as 0. -/
theorem accumulatorRotates : Obligations.AccumulatorRotates := fun _ =>
  ⟨⟨row_unprefixed rfl rfl, writesA_of_rotateA rfl⟩, ⟨row_unprefixed rfl rfl, writesA_of_rotateA rfl⟩,
    ⟨row_unprefixed rfl rfl, writesA_of_rotateA rfl⟩, ⟨row_unprefixed rfl rfl, writesA_of_rotateA rfl⟩⟩

/-! ### RLC, RRC, RL, RR, SLA, SRA, SWAP, SRL (R295 to R310) -/

theorem row_formShiftR (k : ShiftKind) (r : R8) : Row (formShiftR k r) true (8 * codeShift k + codeR8 r) [] 1 1 := by
  cases k <;> cases r <;> exact row_prefixed rfl rfl

theorem row_formShiftAtHl (k : ShiftKind) : Row (formShiftAtHl k) true (8 * codeShift k + 6) [] 3 3 := by
  cases k <;> exact row_prefixed rfl rfl

/-- Settles O26: the register and the flags are those of the helper given the carry flag. -/
theorem prefixedShiftsOfRegisters : Obligations.PrefixedShiftsOfRegisters := by
  intro s k r
  have hexec := exec_formShiftR s k r
  rw [shiftReg, shiftFlags_eq] at hexec
  exact ⟨row_formShiftR k r, writesR8_of_exec hexec⟩

/-- Settles O27: the byte computed is stored by the mediated write, and its flags are written after. -/
theorem prefixedShiftsAtHl : Obligations.PrefixedShiftsAtHl := by
  intro s k
  have hexec := exec_formShiftAtHl s k
  rw [shiftAtHl, memRead_eq, shiftFlags_eq] at hexec
  exact ⟨row_formShiftAtHl k, writesAtHl_of_exec hexec⟩

/-! ### BIT (R311, R312) -/

theorem row_formBitR (b : Bit3) (r : R8) : Row (formBitR b r) true (0x40 + 8 * bitNumber b + codeR8 r) [] 1 1 := by
  cases b <;> cases r <;> exact row_prefixed rfl rfl

theorem row_formBitAtHl (b : Bit3) : Row (formBitAtHl b) true (0x46 + 8 * bitNumber b) [] 2 2 := by
  cases b <;> exact row_prefixed rfl rfl

/-- Settles O28: both write the flags of the test and nothing else. -/
theorem bitTests : Obligations.BitTests := fun s b r =>
  ⟨⟨row_formBitR b r, writesFlags_of_exec (exec_formBitR s b r)⟩,
    ⟨row_formBitAtHl b, writesFlags_of_exec (exec_formBitAtHl s b)⟩⟩

/-! ### RES and SET in whole numbers (R313, R315) -/

section
variable (b : Bit3) (v : Byte)

theorem toNat_bitMask : (1#8 <<< bitNumber b).toNat = 2 ^ bitNumber b := by cases b <;> rfl

theorem toNat_and_bitMask :
    (v &&& 1#8 <<< bitNumber b).toNat = 2 ^ bitNumber b * (v.toNat / 2 ^ bitNumber b % 2) := by
  rw [BitVec.toNat_and, toNat_bitMask, Nat.and_two_pow, Nat.toNat_testBit, Nat.mul_comm]

theorem toNat_or_of_and_eq_zero {x y : Byte} (h : x &&& y = 0#8) : (x ||| y).toNat = x.toNat + y.toNat := by
  rw [← BitVec.add_eq_or_of_and_eq_zero x y h, BitVec.toNat_add_of_and_eq_zero h]

theorem clearBit_and_bitMask : clearBit b v &&& 1#8 <<< bitNumber b = 0#8 := by
  rw [clearBit, BitVec.and_assoc, BitVec.not_and_self]
  exact BitVec.and_zero

/-- A byte is what it is without the bit, plus the bit's weight where it is set. -/
theorem toNat_clearBit_add : (clearBit b v).toNat + 2 ^ bitNumber b * (v.toNat / 2 ^ bitNumber b % 2) = v.toNat := by
  have hsplit : clearBit b v ||| v &&& 1#8 <<< bitNumber b = v := by
    rw [clearBit, ← BitVec.and_or_distrib_left, BitVec.not_or_self, BitVec.and_allOnes]
  have hapart : clearBit b v &&& (v &&& 1#8 <<< bitNumber b) = 0#8 := by
    rw [BitVec.and_comm v, ← BitVec.and_assoc, clearBit_and_bitMask, BitVec.zero_and]
  rw [← toNat_and_bitMask, ← toNat_or_of_and_eq_zero hapart, hsplit]

/-- Setting a bit adds its weight to the byte without it. -/
theorem toNat_setBit : (setBit b v).toNat = (clearBit b v).toNat + 2 ^ bitNumber b := by
  have hsplit : setBit b v = clearBit b v ||| 1#8 <<< bitNumber b := by grind [setBit, clearBit]
  rw [hsplit, toNat_or_of_and_eq_zero (clearBit_and_bitMask b v), toNat_bitMask]

theorem clearBit_eq :
    clearBit b v = BitVec.ofNat 8 (v.toNat - 2 ^ bitNumber b * (v.toNat / 2 ^ bitNumber b % 2)) := by
  have hclear := toNat_clearBit_add b v
  rw [← Nat.eq_sub_of_add_eq hclear, BitVec.ofNat_toNat, BitVec.setWidth_eq]

theorem setBit_eq :
    setBit b v = BitVec.ofNat 8 (v.toNat + 2 ^ bitNumber b * (1 - v.toNat / 2 ^ bitNumber b % 2)) := by
  have hclear := toNat_clearBit_add b v
  have hset : (setBit b v).toNat = v.toNat + 2 ^ bitNumber b * (1 - v.toNat / 2 ^ bitNumber b % 2) := by
    rw [toNat_setBit]
    obtain h | h := Nat.mod_two_eq_zero_or_one (v.toNat / 2 ^ bitNumber b) <;> rw [h] at hclear ⊢ <;> omega
  rw [← hset, BitVec.ofNat_toNat, BitVec.setWidth_eq]

end

/-! ### RES and SET (R313 to R316) -/

theorem row_formResR (b : Bit3) (r : R8) : Row (formResR b r) true (0x80 + 8 * bitNumber b + codeR8 r) [] 1 1 := by
  cases b <;> cases r <;> exact row_prefixed rfl rfl

theorem row_formResAtHl (b : Bit3) : Row (formResAtHl b) true (0x86 + 8 * bitNumber b) [] 3 3 := by
  cases b <;> exact row_prefixed rfl rfl

theorem row_formSetR (b : Bit3) (r : R8) : Row (formSetR b r) true (0xC0 + 8 * bitNumber b + codeR8 r) [] 1 1 := by
  cases b <;> cases r <;> exact row_prefixed rfl rfl

theorem row_formSetAtHl (b : Bit3) : Row (formSetAtHl b) true (0xC6 + 8 * bitNumber b) [] 3 3 := by
  cases b <;> exact row_prefixed rfl rfl

/-- Settles O29: each is one register write or one mediated write of the byte with the bit cleared or set, and no flag is
written. -/
theorem bitResetsAndSets : Obligations.BitResetsAndSets := by
  intro s b r
  have hres := exec_formResR s b r
  have hresAtHl := exec_formResAtHl s b
  have hset := exec_formSetR s b r
  have hsetAtHl := exec_formSetAtHl s b
  rw [resReg, clearBit_eq] at hres
  rw [resAtHl, memRead_eq, clearBit_eq] at hresAtHl
  rw [setReg, setBit_eq] at hset
  rw [setAtHl, memRead_eq, setBit_eq] at hsetAtHl
  exact ⟨⟨row_formResR b r, loadsR8_of_exec hres⟩, ⟨row_formResAtHl b, storesR8_of_exec hresAtHl⟩,
    ⟨row_formSetR b r, loadsR8_of_exec hset⟩, ⟨row_formSetAtHl b, storesR8_of_exec hsetAtHl⟩⟩

end Sys2Proof.Machine

namespace Sys2Proof.Machine

/-! ### Effects that write PC, and effects under a condition (45_control.md; 30_encoding.md R129) -/

section
variable {i : Instr} {s : State} {cc : Cond} {effect : State → Result} {c : Cpu}

theorem State.cond_eq_condHolds (s : State) (cc : Cond) : s.cond cc = condHolds cc s.zf s.cf := by cases cc <;> rfl

theorem onCond_of_holds (h : condHolds cc s.zf s.cf = true) : onCond cc effect s = effect s :=
  if_pos ((s.cond_eq_condHolds cc).trans h)

theorem onCond_of_fails (h : condHolds cc s.zf s.cf = false) : onCond cc effect s = .next s := by
  rw [← s.cond_eq_condHolds] at h
  exact if_neg (Bool.eq_false_iff.mp h)

theorem makesCpu_of_exec (h : exec i s = .next (s.setCpu c)) : MakesCpu i s c :=
  ⟨_, h, rfl, (s.onlyCpu_setCpu c).storesNothing⟩

/-- An effect whose condition fails is the write of the CPU registers as they are. -/
theorem makesCpu_of_onCond (h : exec i s = onCond cc effect s) (heffect : effect s = .next (s.setCpu c)) :
    MakesCpu i s (if condHolds cc s.zf s.cf then c else s.cpu) := by
  apply makesCpu_of_exec
  cases hcc : condHolds cc s.zf s.cf
  case true => rw [h, onCond_of_holds hcc, heffect, if_pos rfl]
  case false => rw [h, onCond_of_fails hcc]; rfl

/-- A jump whose condition fails is a jump to the PC as it is. -/
theorem makesCpu_of_onCond_setPc {v : Word} (h : exec i s = onCond cc effect s) (heffect : effect s = .next (s.setPc v)) :
    MakesCpu i s { s.cpu with pc := if condHolds cc s.zf s.cf then v else s.cpu.pc } := by
  have hmakes := makesCpu_of_onCond h heffect
  cases hcc : condHolds cc s.zf s.cf <;> rw [hcc] at hmakes <;> exact hmakes

/-- The relative target is the PC plus the displacement as a signed number, modulo 2^16 (R323). -/
theorem jumpRel_eq (e8 : Byte) (s : State) :
    jumpRel e8 s = .next (s.setPc (BitVec.ofInt 16 ((s.cpu.pc.toNat : Int) + e8.toInt))) := by
  rw [jumpRel, add_sext16_eq]

theorem pushes_of_callTo {v : Word} (h : exec i s = callTo v s) : Pushes i s s.cpu.pc v :=
  ⟨_, h, (storesWord_push16 s s.cpu.pc).onlyCpu (State.onlyCpu_setCpu _ _), by
    rw [State.setPc, State.setCpu_cpu, push16_cpu]⟩

end

/-! ### JP n16; JP cc,n16; JP HL; JR e8; JR cc,e8 (R320 to R324) -/

theorem row_formJpCc (cc : Cond) (n16 : Word) :
    Row (formJpCc cc n16) false (0xC2 + 8 * codeCond cc) (le16 n16) 3 4 := by
  cases cc <;> exact row_unprefixed rfl rfl

theorem row_formJrCc (cc : Cond) (e8 : Byte) : Row (formJrCc cc e8) false (0x20 + 8 * codeCond cc) [e8] 2 3 := by
  cases cc <;> exact row_unprefixed rfl rfl

/-- Settles O30: each form is one write of PC, and a conditional one whose condition fails is none. -/
theorem jumps : Obligations.Jumps := by
  intro s cc n16 e8
  refine ⟨⟨row_unprefixed rfl rfl, ?_⟩, ⟨row_formJpCc cc n16, ?_⟩, ⟨row_unprefixed rfl rfl, ?_⟩,
    ⟨row_unprefixed rfl rfl, ?_⟩, ⟨row_formJrCc cc e8, ?_⟩⟩
  · exact makesCpu_of_exec rfl
  · exact makesCpu_of_onCond_setPc (exec_formJpCc s cc n16) rfl
  · exact makesCpu_of_exec rfl
  · exact makesCpu_of_exec (jumpRel_eq e8 s)
  · exact makesCpu_of_onCond_setPc (exec_formJrCc s cc e8) (jumpRel_eq e8 s)

/-! ### CALL n16; CALL cc,n16; RST t (R325, R326, R330) -/

theorem row_formCallCc (cc : Cond) (n16 : Word) :
    Row (formCallCc cc n16) false (0xC4 + 8 * codeCond cc) (le16 n16) 3 6 := by
  cases cc <;> exact row_unprefixed rfl rfl

theorem row_formRst (k : Bit3) : Row (formRst k) false (0xC7 + 8 * bitNumber k) [] 4 4 := by
  cases k <;> exact row_unprefixed rfl rfl

/-- Settles O31: each form is the push of PC and then the write of PC, and a conditional one whose condition fails is neither. -/
theorem calls : Obligations.Calls := by
  intro s cc n16 k
  refine ⟨⟨row_unprefixed rfl rfl, ?_⟩, row_formCallCc cc n16, fun hcc => ?_, fun hcc => ?_, row_formRst k, ?_⟩
  · exact pushes_of_callTo rfl
  · exact pushes_of_callTo ((exec_formCallCc s cc n16).trans (onCond_of_holds hcc))
  · exact makesCpu_of_exec ((exec_formCallCc s cc n16).trans (onCond_of_fails hcc))
  · exact pushes_of_callTo (exec_formRst s k)

/-! ### RET; RET cc; RETI (R327 to R329) -/

theorem row_formRetCc (cc : Cond) : Row (formRetCc cc) false (0xC0 + 8 * codeCond cc) [] 2 5 := by
  cases cc <;> exact row_unprefixed rfl rfl

/-- Settles O32: each form moves SP and writes the popped word to PC, RETI then writes IME, and RET cc does nothing where its
condition fails. -/
theorem returns : Obligations.Returns := by
  intro s cc
  refine ⟨⟨row_unprefixed rfl rfl, ?_⟩, ⟨row_formRetCc cc, ?_⟩, ⟨row_unprefixed rfl rfl, ?_⟩⟩
  · exact makesCpu_of_exec rfl
  · exact makesCpu_of_onCond (exec_formRetCc s cc) rfl
  · exact makesCpu_of_exec rfl

end Sys2Proof.Machine

namespace Sys2Proof.Machine

/-! ### HALT under each policy (46_system.md R341) -/

theorem exec_halt (s : State) : exec .halt s = haltBy s.cfg.haltPolicy s := rfl

/-- A HALT that spins reads the same pending byte as the poll (R341, R402). -/
theorem haltBy_spin (s : State) :
    haltBy .spin s = if pendingSources s = 0#8 then .next (s.setPc s.pc0) else .next s := rfl

/-- The pending byte has no bit above the five sources. -/
theorem pendingSources_bit_high (s : State) {k : Nat} (hk : 5 ≤ k) : (pendingSources s).getLsbD k = false := by
  have hlt : (0x1F#8).toNat < 2 ^ k := Nat.lt_of_lt_of_le (by decide : _ < 2 ^ 5) (Nat.pow_le_pow_right (by decide) hk)
  have hmask : (0x1F#8).getLsbD k = false := Nat.testBit_lt_two_pow hlt
  rw [pendingSources, BitVec.getLsbD_and, hmask, Bool.and_false]

theorem pendingSources_eq_zero_iff (s : State) : pendingSources s = 0#8 ↔ ¬ ∃ k, k < 5 ∧ Requested s k := by
  constructor
  · rintro h ⟨k, hk, hr⟩
    have hbit := (pendingSources_bit s hk).2 hr
    rw [h, BitVec.getLsbD_zero] at hbit
    cases hbit
  · intro h
    apply BitVec.eq_of_getLsbD_eq
    intro k _
    rw [BitVec.getLsbD_zero]
    by_cases hk : k < 5
    · exact Bool.eq_false_iff.2 fun hbit => h ⟨k, hk, (pendingSources_bit s hk).1 hbit⟩
    · exact pendingSources_bit_high s (Nat.le_of_not_lt hk)

/-- Settles O34: a spinning HALT goes back exactly where the pending byte is 0, which is where no source is requested. -/
theorem haltByPolicy : Obligations.HaltByPolicy := by
  intro s
  refine ⟨row_unprefixed rfl rfl, fun hp => makesCpu_of_exec ?_, fun hp hreq => makesCpu_of_exec ?_,
    fun hp hnone => makesCpu_of_exec ?_⟩ <;> rw [exec_halt, hp]
  · rfl
  · rw [haltBy_spin, if_neg fun hz => (pendingSources_eq_zero_iff s).1 hz hreq]
    rfl
  · rw [haltBy_spin, if_pos ((pendingSources_eq_zero_iff s).2 hnone)]
    rfl

/-! ### Where a step inside a batch stops (46_system.md R346) -/

/-- The eleven bytes without an instruction (30_encoding.md R133). -/
def undefinedOpcodes : List Byte := [0xD3#8, 0xDB, 0xDD, 0xE3, 0xE4, 0xEB, 0xEC, 0xED, 0xF4, 0xFC, 0xFD]

/-- An undefined entry is encoded by its one byte, without the escape byte. -/
theorem encodeEntry_of_isUndefined {i : Instr} (h : isUndefined i = true) :
    ∃ op ∈ undefinedOpcodes, encodeEntry i = ⟨false, [op]⟩ := by
  have hall : ∀ j ∈ undefinedForms, ∃ op ∈ undefinedOpcodes, encodeEntry j = ⟨false, [op]⟩ := by decide
  exact hall i (by simpa [isUndefined] using h)

/-- The decoder gives an undefined entry for the eleven bytes only, and only in normal-fetch state. -/
theorem undefinedOpcode_of_decodeEntry {p : Bool} {op b1 b2 : Byte} (h : isUndefined (decodeEntry p op b1 b2) = true) :
    p = false ∧ op ∈ undefinedOpcodes := by
  obtain ⟨op', hop, henc⟩ := encodeEntry_of_isUndefined h
  rw [encodeEntry_decodeEntry] at henc
  injection henc with hp hbytes
  exact ⟨hp, (List.cons.inj hbytes).1 ▸ hop⟩

section
variable {s : State}

/-- Where TABLE has its reference entry, an undefined entry is fetched at one of the eleven bytes, with PREFIX clear. -/
theorem undefinedOpcode_of_fetchInstr (ht : FetchesReference s) (h : isUndefined (fetchInstr s) = true) :
    s.cpu.prefixOp = false ∧ directRead s s.cpu.pc ∈ undefinedOpcodes := by
  rw [(fetch_reference s ht).1] at h
  exact undefinedOpcode_of_decodeEntry h

theorem cpuStep_of_isUndefined (hk : selectedSource s = none) (hu : isUndefined (fetchInstr s) = true) :
    cpuStep s = .fault (.undefinedOpcode (directRead s s.cpu.pc) s.cpu.pc) := by
  rw [cpuStep_of_none hk, fetchExecute_fault (exec_undefined _ _ hu)]
  rfl

/-- A step inside a batch that gives no next state is its CPU step's: the end of the iteration and of the frame always give
one. -/
theorem step_stops_iff (hb : s.inBatch = true) :
    (∀ r, step s = .fault r ↔ cpuStep (beginIteration s) = .fault r)
    ∧ (∀ r, step s = .refused r ↔ cpuStep (beginIteration s) = .refused r) := by
  rw [step_of_inBatch hb, batchIteration, iteration]
  cases cpuStep (beginIteration s) <;> simp

end

/-- Settles O60: a step in a batch stops where its CPU step does, and that stops only at an undefined entry it fetches. -/
theorem onlyUndefinedBytesStopTheMachine : Obligations.OnlyUndefinedBytesStopTheMachine := by
  intro s hb
  obtain ⟨hfault, hrefused⟩ := step_stops_iff hb
  have hcpu := beginIteration_cpu s
  refine ⟨fun r hr => cpuStep_not_refused _ r ((hrefused r).1 hr), fun hk hu => ?_, fun r hr => ?_⟩
  · rw [hfault, cpuStep_of_isUndefined hk hu, hcpu]
  · obtain ⟨hk, hu, hreason⟩ := cpuStep_fault _ ((hfault r).1 hr)
    rw [hcpu] at hreason
    refine ⟨hreason, hk, hu, fun ht => ?_⟩
    rw [← beginIteration_cfg s] at ht
    have hbyte := undefinedOpcode_of_fetchInstr ht hu
    rwa [hcpu] at hbyte

/-! ### NOP, STOP, DI, EI and the escape entry (46_system.md R340, R342 to R345) -/

/-- Settles O33: each effect is at most one write of a CPU register. -/
theorem nopStopDiEiPrefix : Obligations.NopStopDiEiPrefix := by
  intro s n8
  exact ⟨⟨row_unprefixed rfl rfl, makesCpu_of_exec rfl⟩, ⟨row_unprefixed rfl rfl, makesCpu_of_exec rfl⟩,
    ⟨row_unprefixed rfl rfl, makesCpu_of_exec rfl⟩, ⟨row_unprefixed rfl rfl, makesCpu_of_exec rfl⟩,
    ⟨row_unprefixed rfl rfl, makesCpu_of_exec rfl⟩⟩

end Sys2Proof.Machine

namespace Sys2Proof.Machine

/-! ### The timer's advance (60_exceptions.md R411 to R413) -/

theorem timaPeriod_eq_periodOfTac (tac : Byte) : timaPeriod tac = periodOfTac tac := by
  have hlt : tac.toNat % 4 < 4 := Nat.mod_lt _ (by decide)
  unfold timaPeriod periodOfTac
  generalize tac.toNat % 4 = r at hlt ⊢
  interval_cases r <;> rfl

/-- TAC bit 2 in whole numbers. -/
theorem getLsbD_two_iff (v : Byte) : v.getLsbD 2 = true ↔ v.toNat / 4 % 2 = 1 := by
  simp [BitVec.getLsbD, Nat.testBit_eq_decide_div_mod_eq]

theorem timaDue_iff (s : State) (c : Nat) :
    timaDue s c ↔ (directRead s s.cfg.io.tac).toNat / 4 % 2 = 1 ∧ s.timer.clocksTillTimaInc - (c : Int) ≤ 0 := by
  rw [timaDue, getLsbD_two_iff]

/-- Settles O40: the budgets and the bytes DIV, TIMA and IF are those of the two parts of the advance, and no other byte is
written. -/
theorem timerAdvance_effect : Obligations.TimerAdvance := by
  intro s c hio t io period div tima on old
  have hd := ioOk_distinct hio
  have htimer := timerAdvance_timer s hd c
  have hread := timerAdvance_read s hd c
  have hinc := timaIncrement_read s hd
  refine ⟨congrArg TimerState.clocksTillDivInc htimer, ?_, ?_, ?_, ?_, fun a => timerAdvance_read_other s c,
    timerAdvance_frame s c⟩
  · rw [hread, if_pos rfl]
  · rw [htimer]
    simp only [timaLeft, getLsbD_two_iff, timaPeriod_eq_periodOfTac]
    rfl
  · rw [hread, if_neg hd.tima_div, hinc, if_pos rfl]
    simp only [timaDue_iff]
    rfl
  · rw [hread, if_neg hd.if_div, hinc, if_neg hd.if_tima]
    simp only [timaDue_iff, true_and, ← ite_and, and_assoc, io]
    rfl

/-! ### The PPU's advance (60_exceptions.md R440 to R449) -/

/-- Settles O43: with the LCD off the advance is one write of LY and of its byte (R442). -/
theorem ppuFrozenWithLcdOff : Obligations.PpuFrozenWithLcdOff := by
  intro s c hoff t
  have ht : t = directWrite (s.setLcd { s.lcd with ly := 0 }) s.cfg.io.ly 0 := ppuAdvance_off s c hoff
  refine ⟨by rw [ht]; rfl, ?_, fun a ha => ?_, by rw [ht]; rfl⟩
  · rw [ht]; exact directRead_directWrite_same _ _ _
  · rw [ht]; exact directRead_directWrite_other _ _ ha

/-- A request is allowed at every advance under `level`, on a crossing only under `edge` (R448). -/
theorem requestAllowed_eq (mode : PpuIrqMode) (crossed : Bool) :
    requestAllowed mode crossed = (decide (mode = .level) || crossed) := by cases mode <;> rfl

/-- The mode and the coincidence bit of STAT do not overlap, so that they can be added (R445). -/
theorem statByte_eq (old : Byte) {mode : Nat} (hmode : mode < 4) (same : Bool) :
    statByte old mode same = (old &&& 0xF8#8) ||| BitVec.ofNat 8 (mode + (if same then 4 else 0)) := by
  unfold statByte
  congr 1
  cases same <;> interval_cases mode <;> rfl

theorem ppuMode_lt (ly sc : Nat) : ppuMode ly sc < 4 := by
  unfold ppuMode
  (repeat' split) <;> decide

/-- The PPU's timing and the framebuffer after an advance with the LCD on (R443, R444). -/
theorem ppuAdvance_on_lcd_framebuffer (s : State) (c : Nat) (h : s.lcd.ok)
    (hon : (directRead s s.cfg.io.lcdc).getLsbD 7 = true) :
    (ppuAdvance s c).lcd = ⟨dotsAfter s c, (s.lcd.ly + linesCrossed s c) % 154⟩
    ∧ (ppuAdvance s c).framebuffer = renderedFrom s s.framebuffer s.lcd.ly (linesCrossed s c) := by
  rw [ppuAdvance_on s c h hon, ← ppuReport_frame]
  exact ⟨rfl, rfl⟩

/-- Settles O42: the crossing in closed form gives the timing and the framebuffer, the report the three bytes. -/
theorem ppuAdvanceWithLcdOn : Obligations.PpuAdvanceWithLcdOn := by
  intro s c hio hok hon t io n sc ly mode same ask
  have hd := ioOk_distinct hio
  have hread := ppuAdvance_on_read s hd c hok hon
  obtain ⟨hlcd, hfb⟩ := ppuAdvance_on_lcd_framebuffer s c hok hon
  have hask : requestAllowed s.cfg.ppuIrqMode (decide (456 ≤ s.lcd.scanlineCycles + c)) = ask := by
    rw [requestAllowed_eq, linesCrossed_pos]
  dsimp only at hread
  rw [hask] at hread
  refine ⟨hlcd, ?_, ?_, ?_, fun a => ppuAdvance_read_other s c, hfb, ppuAdvance_frame s c⟩
  · rw [hread, if_neg hd.ly_stat.symm, if_neg hd.if_stat.symm, if_pos rfl, statByte_eq _ (ppuMode_lt _ _)]
    rfl
  · rw [hread, if_pos rfl]
  · rw [hread, if_neg hd.ly_if.symm, if_pos rfl]
    rfl

/-! ### The joypad sample (60_exceptions.md R460) -/

theorem invertedNibble_bits (k3 k2 k1 k0 : Bool) :
    (invertedNibble k3 k2 k1 k0).getLsbD 3 = !k3 ∧ (invertedNibble k3 k2 k1 k0).getLsbD 2 = !k2
    ∧ (invertedNibble k3 k2 k1 k0).getLsbD 1 = !k1 ∧ (invertedNibble k3 k2 k1 k0).getLsbD 0 = !k0
    ∧ (invertedNibble k3 k2 k1 k0).toNat < 16 := by
  revert k3 k2 k1 k0; decide

/-- The nibble of a group: that of its buttons when its select bit is 0, else none (R53). -/
def groupNibble (unselected : Bool) (n : Byte) : Byte := if unselected then 0#8 else n

theorem groupNibble_bit (unselected : Bool) (n : Byte) (k : Nat) :
    (groupNibble unselected n).getLsbD k = (!unselected && n.getLsbD k) := by
  cases unselected <;> simp [groupNibble]

theorem groupNibble_lt {n : Byte} (h : n.toNat < 16) (unselected : Bool) : (groupNibble unselected n).toNat < 16 := by
  cases unselected
  · exact h
  · exact Nat.zero_lt_succ 15

theorem joypByte_eq (j : Byte) (p : Joypad) :
    joypByte j p = (j &&& 0xF0#8) ||| (groupNibble (j.getLsbD 4) (invertedNibble p.down p.up p.left p.right)
      ||| groupNibble (j.getLsbD 5) (invertedNibble p.start p.select p.b p.a)) := rfl

/-- The high nibble of a byte whose low nibble was replaced. -/
theorem toNat_div_of_lowNibble (j : Byte) {low : Byte} (h : low.toNat < 16) :
    ((j &&& 0xF0#8) ||| low).toNat / 16 = j.toNat / 16 := by
  have hj := j.isLt
  calc ((j &&& 0xF0#8) ||| low).toNat / 2 ^ 4
      = (j.toNat / 2 ^ 4 &&& 240 / 2 ^ 4) ||| low.toNat / 2 ^ 4 := by
        rw [BitVec.toNat_or, BitVec.toNat_and, Nat.or_div_two_pow, Nat.and_div_two_pow]; rfl
    _ = (j.toNat / 2 ^ 4) % 2 ^ 4 ||| 0 := by
        rw [Nat.div_eq_of_lt (show low.toNat < 2 ^ 4 from h), show 240 / 2 ^ 4 = 2 ^ 4 - 1 from rfl,
          Nat.and_two_pow_sub_one_eq_mod]
    _ = j.toNat / 2 ^ 4 := by rw [Nat.or_zero, Nat.mod_eq_of_lt (by omega)]

/-- The sampled byte bit by bit (R53, R460). -/
theorem joypByte_bits (j : Byte) (p : Joypad) :
    (joypByte j p).toNat / 16 = j.toNat / 16
    ∧ (joypByte j p).getLsbD 3 = ((!j.getLsbD 4 && !p.down) || (!j.getLsbD 5 && !p.start))
    ∧ (joypByte j p).getLsbD 2 = ((!j.getLsbD 4 && !p.up) || (!j.getLsbD 5 && !p.select))
    ∧ (joypByte j p).getLsbD 1 = ((!j.getLsbD 4 && !p.left) || (!j.getLsbD 5 && !p.b))
    ∧ (joypByte j p).getLsbD 0 = ((!j.getLsbD 4 && !p.right) || (!j.getLsbD 5 && !p.a)) := by
  obtain ⟨d3, d2, d1, d0, hdir⟩ := invertedNibble_bits p.down p.up p.left p.right
  obtain ⟨a3, a2, a1, a0, hact⟩ := invertedNibble_bits p.start p.select p.b p.a
  have hbit (k : Nat) (hk : (0xF0#8).getLsbD k = false) : (joypByte j p).getLsbD k
      = ((!j.getLsbD 4 && (invertedNibble p.down p.up p.left p.right).getLsbD k)
        || (!j.getLsbD 5 && (invertedNibble p.start p.select p.b p.a).getLsbD k)) := by
    rw [joypByte_eq, BitVec.getLsbD_or, BitVec.getLsbD_and, hk, Bool.and_false, Bool.false_or, BitVec.getLsbD_or,
      groupNibble_bit, groupNibble_bit]
  refine ⟨?_, ?_, ?_, ?_, ?_⟩
  · rw [joypByte_eq]
    refine toNat_div_of_lowNibble j ?_
    rw [BitVec.toNat_or]
    exact Nat.or_lt_two_pow (n := 4) (groupNibble_lt hdir _) (groupNibble_lt hact _)
  · rw [hbit 3 rfl, d3, a3]
  · rw [hbit 2 rfl, d2, a2]
  · rw [hbit 1 rfl, d1, a1]
  · rw [hbit 0 rfl, d0, a0]

/-- Settles O46: the sample is one write of JOYP, of the sampled byte. -/
theorem joypadSample_effect : Obligations.JoypadSample := by
  intro s t j k p
  have hk : k = joypByte j p := (joypadSample_read s _).trans (if_pos rfl)
  obtain ⟨hhigh, h3, h2, h1, h0⟩ := joypByte_bits j p
  rw [hk]
  exact ⟨hhigh, h3, h2, h1, h0, fun a ha => (joypadSample_read s a).trans (if_neg ha), joypadSample_frame s⟩

/-! ### The step that takes an interrupt -/

/-- Settles O5: the poll selects a source, so the iteration's CPU step is its dispatch. -/
theorem stepTakesTheSelectedInterrupt : Obligations.StepTakesTheSelectedInterrupt := by
  intro s k hb hk taken u
  have hstep := step_of_iteration hb (iteration_of_cpuStep (cpuStep_of_some hk))
  rw [endIteration] at hstep
  exact hstep

end Sys2Proof.Machine

namespace Sys2Proof.Machine

/-! ### Push and pop of the save-state ring (60_exceptions.md R471, R472) -/

theorem takeSnapshot_restoreSnapshot (s : State) (x : Snapshot) : takeSnapshot (restoreSnapshot s x) = x := rfl

theorem popSaveState_of_empty {s : State} (h : s.ring.count = 0) : popSaveState s = s := if_pos h

/-- A pop of a ring that is not empty restores the slot below the cursor, and moves cursor and count down by one. -/
theorem popSaveState_of_pos {s : State} (h : 0 < s.ring.count) :
    popSaveState s
      = restoreSnapshot (s.setRing { s.ring with cursor := s.ring.cursor - 1, count := s.ring.count - 1 })
          (slotContents s ((s.ring.cursor - 1) % s.cfg.saveCapacity)) := if_neg (Nat.pos_iff_ne_zero.1 h)

theorem slotContents_of_some {s : State} {i : Nat} {x : Snapshot} (h : s.ring.slots[i]? = some (some x)) :
    slotContents s i = x := by
  rw [slotContents, List.getD_eq_getElem?_getD, h]; rfl

/-- The slots after a push: the snapshot at the cursor's slot, the others as they were. -/
theorem pushSaveState_slot (s : State) (hlen : s.ring.slots.length = s.cfg.saveCapacity) (hk : 1 ≤ s.cfg.saveCapacity)
    (i : Nat) :
    (pushSaveState s).ring.slots[i]?
      = if i = s.ring.cursor % s.cfg.saveCapacity then some (some (takeSnapshot s)) else s.ring.slots[i]? := by
  have hlt : s.ring.cursor % s.cfg.saveCapacity < s.ring.slots.length := by rw [hlen]; exact Nat.mod_lt _ hk
  show (s.ring.slots.set _ _)[i]? = _
  by_cases h : i = s.ring.cursor % s.cfg.saveCapacity
  · rw [if_pos h, h, List.getElem?_set_self hlt]
  · rw [if_neg h, List.getElem?_set_ne (Ne.symm h)]

/-- Settles O52: a push is one write of the ring; the pop after it reads the slot it wrote. -/
theorem saveStatePushAndPop : Obligations.SaveStatePushAndPop := by
  intro s d k pushed later
  refine ⟨fun hlen hk => ⟨?_, fun i hi => ?_, rfl, rfl, rfl⟩, popSaveState_of_empty, fun hlen hk hcfg => ?_⟩
  · rw [pushSaveState_slot s hlen hk, if_pos rfl]
  · rw [pushSaveState_slot s hlen hk, if_neg hi]
  · have hcount : 0 < later.ring.count := Nat.lt_min.2 ⟨Nat.succ_pos _, hk⟩
    have hslot : slotContents later (s.ring.cursor % d.cfg.saveCapacity) = takeSnapshot s :=
      slotContents_of_some ((pushSaveState_slot s hlen hk _).trans (if_pos (by rw [hcfg])))
    have hpop : popSaveState later = restoreSnapshot
        (later.setRing { later.ring with cursor := s.ring.cursor, count := later.ring.count - 1 })
        (takeSnapshot s) := by
      rw [← hslot]; exact popSaveState_of_pos hcount
    rw [hpop]
    exact ⟨rfl, rfl, rfl, rfl, rfl, rfl, rfl, rfl, rfl, rfl, rfl, rfl⟩

/-! ### The ring over many pushes and pops (60_exceptions.md R473, R474) -/

/-- Two pushes fewer than K apart have different slots. -/
theorem mod_ne_of_lt_add {a b k : Nat} (hlt : a < b) (hb : b < a + k) : a % k ≠ b % k := by
  intro h
  have hle := Nat.le_of_dvd (by omega) ((Nat.modEq_iff_dvd' hlt.le).1 h)
  omega

section
variable {f : Nat → State → State} {s : State} (hf : ∀ i x, (f i x).ring = x.ring ∧ (f i x).cfg = x.cfg)
include hf

theorem pushMany_cfg (n : Nat) : (pushMany f n s).cfg = s.cfg := by
  induction n with
  | zero => rfl
  | succ n ih => exact (hf n _).2.trans ih

theorem pushMany_cursor (n : Nat) : (pushMany f n s).ring.cursor = s.ring.cursor + n := by
  induction n with
  | zero => rfl
  | succ n ih =>
    show (f n _).ring.cursor + 1 = _
    rw [(hf n _).1, ih, Nat.add_assoc]

theorem pushMany_length (n : Nat) : (pushMany f n s).ring.slots.length = s.ring.slots.length := by
  induction n with
  | zero => rfl
  | succ n ih =>
    show (List.set (f n _).ring.slots _ _).length = _
    rw [List.length_set, (hf n _).1, ih]

/-- The ring counts the pushes up to K. -/
theorem le_pushMany_count {m : Nat} (hm : m ≤ s.cfg.saveCapacity) (n : Nat) (hn : m ≤ n) :
    m ≤ (pushMany f n s).ring.count := by
  induction n generalizing m with
  | zero => omega
  | succ n ih =>
    show m ≤ min ((f n _).ring.count + 1) (f n _).cfg.saveCapacity
    rw [(hf n _).1, (hf n _).2, pushMany_cfg hf]
    have := ih (m := m - 1) (by omega) (by omega)
    omega

/-- The slot of each of the K most recent pushes holds the state pushed there (R473). -/
theorem pushMany_slot (hlen : s.ring.slots.length = s.cfg.saveCapacity) (n : Nat) {i : Nat} (hi : i < n)
    (hn : n ≤ i + s.cfg.saveCapacity) :
    (pushMany f n s).ring.slots[(s.ring.cursor + i) % s.cfg.saveCapacity]?
      = some (some (takeSnapshot (f i (pushMany f i s)))) := by
  induction n with
  | zero => omega
  | succ n ih =>
    have hcfg : (f n (pushMany f n s)).cfg = s.cfg := (hf n _).2.trans (pushMany_cfg hf n)
    have hring : (f n (pushMany f n s)).ring = (pushMany f n s).ring := (hf n _).1
    rw [pushMany, pushSaveState_slot _ (by rw [hring, pushMany_length hf, hlen, hcfg]) (by rw [hcfg]; omega), hcfg, hring,
      pushMany_cursor hf]
    rcases Nat.lt_succ_iff_lt_or_eq.1 hi with hlt | rfl
    · rw [if_neg (mod_ne_of_lt_add (by omega) (by omega))]
      exact ih hlt (by omega)
    · rw [if_pos rfl]

end

/-- `m` pops of a ring that counts at least `m` pushes move cursor and count down by `m` and keep the slots. -/
theorem popMany_ring (s : State) (m : Nat) (h : m ≤ s.ring.count) :
    (popMany m s).cfg = s.cfg
    ∧ (popMany m s).ring = { s.ring with cursor := s.ring.cursor - m, count := s.ring.count - m } := by
  induction m with
  | zero => exact ⟨rfl, rfl⟩
  | succ m ih =>
    obtain ⟨hcfg, hring⟩ := ih (by omega)
    rw [popMany, popSaveState_of_pos (by rw [hring]; show 0 < s.ring.count - m; omega)]
    refine ⟨hcfg, ?_⟩
    show { (popMany m s).ring with cursor := (popMany m s).ring.cursor - 1, count := (popMany m s).ring.count - 1 } = _
    rw [hring]; rfl

/-- The last of `m` pops restores the slot `m` below the cursor. -/
theorem takeSnapshot_popMany (s : State) {m : Nat} (h1 : 1 ≤ m) (h : m ≤ s.ring.count) {x : Snapshot}
    (hx : s.ring.slots[(s.ring.cursor - m) % s.cfg.saveCapacity]? = some (some x)) : takeSnapshot (popMany m s) = x := by
  obtain ⟨m, rfl⟩ := Nat.exists_eq_add_of_le' h1
  obtain ⟨hcfg, hring⟩ := popMany_ring s m (by omega)
  rw [popMany, popSaveState_of_pos (by rw [hring]; show 0 < s.ring.count - m; omega), takeSnapshot_restoreSnapshot]
  apply slotContents_of_some
  rw [hcfg, hring]
  exact hx

/-- Settles O53: `m` pops restore the slot `m` below the cursor, which holds the state of push number `n - m + 1`. -/
theorem popsRestoreTheMostRecentPushes : Obligations.PopsRestoreTheMostRecentPushes := by
  intro f s n m hf hlen _ _ h1 hn hk
  refine takeSnapshot_popMany _ h1 (le_pushMany_count hf hk n hn) ?_
  rw [pushMany_cursor hf, pushMany_cfg hf, Nat.add_sub_assoc hn]
  exact pushMany_slot hf hlen n (by omega) (by omega)

/-! ### The reset (70_reset_and_hazards.md R501) -/

/-- The bytes a reset leaves: 0 at LY, elsewhere those of the direct writes of the list POST_BOOT_IO. -/
theorem directRead_resetMachine (s : State) (x : Word) :
    directRead (resetMachine s) x = if x = s.cfg.io.ly then 0 else directRead (writePostBoot s) x := by
  rw [resetMachine_eq]
  exact directRead_directWrite (writePostBoot s) s.cfg.io.ly 0 x

theorem directRead_resetMachine_other {s : State} {x : Word} (hly : x ≠ s.cfg.io.ly)
    (h : ∀ e ∈ s.cfg.postBootIo, e.1 ≠ x) :
    directRead (resetMachine s) x = directRead s x := by
  rw [directRead_resetMachine, if_neg hly]
  exact directRead_writes_other s _ x h

theorem directRead_resetMachine_listed {s : State} (hn : (s.cfg.postBootIo.map Prod.fst).Nodup) {e : Word × Byte}
    (he : e ∈ s.cfg.postBootIo) (hly : e.1 ≠ s.cfg.io.ly) : directRead (resetMachine s) e.1 = e.2 := by
  rw [directRead_resetMachine, if_neg hly]
  exact directRead_writes_listed s _ hn e he

/-- A reset re-arms the budgets, TIMA's by the TAC byte it leaves (R501, R503). -/
theorem resetMachine_timer (s : State) :
    (resetMachine s).timer = ⟨256, periodOfTac (directRead (resetMachine s) s.cfg.io.tac)⟩ := by
  rw [← timaPeriod_eq_periodOfTac, resetMachine_eq]
  rfl

theorem resetMachine_cpu (s : State) : (resetMachine s).cpu = resetCpu := by rw [resetMachine_eq]; rfl
theorem resetMachine_lcd (s : State) : (resetMachine s).lcd = ⟨0, 0⟩ := by rw [resetMachine_eq]; rfl

/-- Settles O49: `resetMachine_eq` names the fields a reset writes, and its list of direct writes the bytes. -/
theorem resetProcedure : Obligations.ResetProcedure := by
  intro s t io listed
  have hlisted (hn : (listed.map Prod.fst).Nodup) (e : Word × Byte) (he : e ∈ listed) (hly : e.1 ≠ io.ly) :
      directRead t e.1 = e.2 := directRead_resetMachine_listed hn he hly
  have htimer := resetMachine_timer s
  refine ⟨resetMachine_cpu s, hlisted, (directRead_resetMachine s _).trans (if_pos rfl),
    fun a ha hl => directRead_resetMachine_other ha hl, resetMachine_lcd s, htimer, fun hl hio => ?_, ?_, ?_, ?_⟩
  · have href (e : Word × Byte) (he : e ∈ listed) : directRead t e.1 = e.2 := by
      refine hlisted (by rw [hl]; exact referencePostBootIo_nodup) e he ?_
      rw [hio]; exact referencePostBootIo_ne_ly e (hl ▸ he)
    refine ⟨href, ?_⟩
    have htac : directRead t io.tac = 0x00 := by
      rw [hio]; exact href (0xFF07, 0x00) (by rw [hl]; decide)
    show (resetMachine s).timer.clocksTillTimaInc = 1024
    rw [htimer]
    show periodOfTac (directRead t io.tac) = 1024
    rw [htac]; rfl
  all_goals
    rw [show t = _ from resetMachine_eq s]
    rfl

/-! ### The cartridge load (70_reset_and_hazards.md R504 to R507) -/

/-- Direct writes of a list leave the same byte at an address where the states before them had the same byte. -/
theorem directRead_writes_congr {s t : State} {x : Word} (h : directRead s x = directRead t x) (l : List (Word × Byte)) :
    directRead (l.foldl (fun u e => directWrite u e.1 e.2) s) x
      = directRead (l.foldl (fun u e => directWrite u e.1 e.2) t) x := by
  induction l generalizing s t with
  | nil => exact h
  | cons e l ih => exact ih (by rw [directRead_directWrite, directRead_directWrite, h])

theorem directRead_resetMachine_congr {s t : State} {x : Word} (hcfg : s.cfg = t.cfg) (h : directRead s x = directRead t x) :
    directRead (resetMachine s) x = directRead (resetMachine t) x := by
  rw [directRead_resetMachine, directRead_resetMachine, writePostBoot, writePostBoot, hcfg, directRead_writes_congr h]

/-- The machine of a load before its reset: the cartridge in place, the first 32 KiB of the ROM written (R507). -/
def romMapped (s : State) (rom : List Byte) : State := writeBytes (s.setCart (some (decodeHeader rom))) 0 (rom.take 0x8000)

theorem loadCartridge_eq (s : State) (rom : List Byte) : loadCartridge s rom = resetMachine (romMapped s rom) := rfl

section
variable (s : State) (rom : List Byte)

theorem romMapped_cfg : (romMapped s rom).cfg = s.cfg := by rw [romMapped, ← writeBytes_frame]; rfl
theorem romMapped_cart : (romMapped s rom).cart = some (decodeHeader rom) := by rw [romMapped, ← writeBytes_frame]; rfl

theorem directRead_romMapped (x : Word) :
    directRead (romMapped s rom) x = ((rom.take 0x8000)[x.toNat]?).getD (directRead s x) := by
  have hlen : (rom.take 0x8000).length ≤ 65536 := (List.length_take_le _ _).trans (by decide)
  rw [romMapped, directRead_writeBytes _ _ _ hlen]
  simp only [BitVec.ofNat_eq_ofNat, BitVec.sub_zero]
  rfl

theorem byteAt_romMapped {i : Nat} (hi : i < 0x8000) : byteAt (romMapped s rom) i = (rom[i]?).getD (byteAt s i) := by
  rw [byteAt, directRead_romMapped, BitVec.toNat_ofNat, Nat.mod_eq_of_lt (by omega), List.getElem?_take_of_lt hi]; rfl

/-- Above the mapped 32 KiB the load writes no byte before its reset. -/
theorem directRead_romMapped_high {x : Word} (h : 0x7FFF < x.toNat) : directRead (romMapped s rom) x = directRead s x := by
  rw [directRead_romMapped, List.getElem?_eq_none ((List.length_take_le _ _).trans h)]; rfl

theorem headerByte_of_some {offset : Nat} {b : Byte} (h : rom[offset]? = some b) : headerByte rom offset = b := by
  rw [headerByte, h]

end

theorem romSizeOf_eq (b : Byte) :
    romSizeOf b = if b.toNat ≤ 8 then 32768 * 2 ^ b.toNat
      else if b = 0x52 then 72 * 16384 else if b = 0x53 then 80 * 16384 else if b = 0x54 then 96 * 16384 else 32768 := by
  simp only [romSizeOf, BitVec.toNat_eq]
  rfl

theorem ramSizeOf_eq (b : Byte) :
    ramSizeOf b = if b = 2 then 8192 else if b = 3 then 32768 else if b = 4 then 131072 else if b = 5 then 65536 else 0 := by
  simp only [BitVec.toNat_eq]
  unfold ramSizeOf
  split <;> simp_all

/-- Settles O51: a load is the reset of the machine with the ROM mapped; the reset writes no byte of ROM, and above 0x7FFF the
mapped machine has the bytes of the one before the load. -/
theorem cartridgeLoad : Obligations.CartridgeLoad := by
  intro s rom t io
  have hcfg := romMapped_cfg s rom
  have hcart : t.cart = some (decodeHeader rom) := by
    rw [← romMapped_cart s rom]
    show (resetMachine (romMapped s rom)).cart = _
    rw [resetMachine_eq]; rfl
  refine ⟨fun hlist hly i hi => ?_, fun a ha => ?_, ⟨decodeHeader rom, hcart, rfl, fun b hb => ?_, fun b hb => ?_,
    fun b hb => ?_, fun b hb => ?_, fun i hi b hb => ?_, rfl⟩, resetMachine_cpu _, resetMachine_lcd _, ?_⟩
  · have hlow : (BitVec.ofNat 16 i).toNat < 0x8000 := by rw [BitVec.toNat_ofNat]; omega
    rw [← byteAt_romMapped s rom hi]
    refine directRead_resetMachine_other (s := romMapped s rom) ?_ ?_ <;> rw [hcfg]
    · intro h
      rw [h] at hlow
      exact Nat.not_lt_of_le hly hlow
    · intro e he h
      have hhigh := hlist e he
      rw [h] at hhigh
      exact Nat.not_lt_of_le hhigh hlow
  · exact directRead_resetMachine_congr hcfg (directRead_romMapped_high s rom ha)
  · exact (congrArg romSizeOf (headerByte_of_some rom hb)).trans (romSizeOf_eq b)
  · exact (congrArg ramSizeOf (headerByte_of_some rom hb)).trans (ramSizeOf_eq b)
  · exact headerByte_of_some rom hb
  · exact congrArg (·.getLsbD 7) (headerByte_of_some rom hb)
  · show ((List.range 11).map fun i => headerByte rom (0x134 + i))[i]? = some b
    rw [List.getElem?_map, List.getElem?_range hi, Option.map_some, headerByte_of_some rom hb]
  · have htimer := resetMachine_timer (romMapped s rom)
    rwa [hcfg] at htimer

end Sys2Proof.Machine

namespace Sys2Proof.Machine

/-! ### The colour ids of a line (60_exceptions.md R450 to R455) -/

section
variable (s : State)

theorem byteAt_add (a : Word) (n : Nat) : directRead s (a + BitVec.ofNat 16 n) = byteAt s (a.toNat + n) := by
  rw [byteAt, BitVec.ofNat_add, BitVec.ofNat_toNat, BitVec.setWidth_eq]

theorem byteAt_succ (n : Nat) : directRead s (BitVec.ofNat 16 n + 1) = byteAt s (n + 1) := by
  rw [byteAt, BitVec.ofNat_add]; rfl

/-- The two bytes of row data `n` bytes into a tile, in whole numbers (R68). -/
theorem colorId_directRead (a : Word) (n b : Nat) :
    colorId (directRead s (a + BitVec.ofNat 16 n)) (directRead s (a + BitVec.ofNat 16 n + 1)) b
      = 2 * ((byteAt s (a.toNat + n + 1)).getLsbD b).toNat + ((byteAt s (a.toNat + n)).getLsbD b).toNat := by
  have hword : a + BitVec.ofNat 16 n = BitVec.ofNat 16 (a.toNat + n) := by
    rw [BitVec.ofNat_add, BitVec.ofNat_toNat, BitVec.setWidth_eq]
  rw [hword, byteAt_succ]
  rfl

/-- The tile's address in whole numbers: neither addressing leaves 0x8000..0x97FF (R452). -/
theorem tileAddr_toNat (lcdc idx : Byte) :
    (tileAddr lcdc idx).toNat
      = (if lcdc.getLsbD 4 then 0x8000 + 16 * (idx.toNat : Int) else 0x9000 + 16 * idx.toInt).toNat := by
  have hlt := idx.isLt
  unfold tileAddr
  split
  · rw [zext16, BitVec.toNat_add, BitVec.toNat_mul, BitVec.toNat_setWidth]
    simp only [BitVec.toNat_ofNat]
    omega
  · have hmsb : idx.msb = true ↔ 128 ≤ idx.toNat := by rw [BitVec.msb_eq_decide, decide_eq_true_iff]
    rw [sext16, BitVec.toNat_add, BitVec.toNat_mul, BitVec.toNat_signExtend, BitVec.toNat_setWidth, BitVec.toInt_eq_msb_cond]
    simp only [BitVec.toNat_ofNat, hmsb]
    split <;> omega

theorem bgPixel_eq_backgroundId (x y : Nat) : bgPixel s (directRead s s.cfg.io.lcdc) y x = backgroundId s x y := by
  unfold bgPixel backgroundId
  dsimp only
  cases hon : (directRead s s.cfg.io.lcdc).getLsbD 0 with
  | false => rfl
  | true =>
    simp only [↓reduceIte, Bool.true_eq_false]
    generalize (if s.cfg.bgScroll = true then (x + (directRead s s.cfg.io.scx).toNat) % 256 else x) = sx
    generalize (if s.cfg.bgScroll = true then (y + (directRead s s.cfg.io.scy).toNat) % 256 else y) = sy
    have hmap : (if (directRead s s.cfg.io.lcdc).getLsbD 3 = true then (0x9C00 : Word) else 0x9800).toNat
        = if (directRead s s.cfg.io.lcdc).getLsbD 3 = true then 0x9C00 else 0x9800 := by split <;> rfl
    rw [colorId_directRead, byteAt_add, tileAddr_toNat, hmap, ← Nat.add_assoc _ (32 * (sy / 8)) (sx / 8)]

/-! ### Sprites -/

theorem oamEntry_eq (i : Nat) :
    oamEntry s i = ⟨byteAt s (0xFE00 + 4 * i), byteAt s (0xFE00 + 4 * i + 1), byteAt s (0xFE00 + 4 * i + 2),
      byteAt s (0xFE00 + 4 * i + 3)⟩ := by
  simp only [oamEntry, byteAt_add, Nat.add_assoc]
  rfl

/-- R453's comparison in integers is the one in whole numbers. -/
theorem spriteOnLine_oamEntry (y i : Nat) :
    spriteOnLine (directRead s s.cfg.io.lcdc) y (oamEntry s i) = intersects s y i := by
  rw [oamEntry_eq, spriteOnLine, intersects, spriteHeight]
  dsimp only
  congr 1 <;> rw [decide_eq_decide]
  · omega
  · split <;> omega

/-- The sprites drawn on a line are the OAM entries selected for it (R453). -/
theorem spritesOnLine_eq (y : Nat) :
    spritesOnLine s (directRead s s.cfg.io.lcdc) y = (selectedSprites s y).map (oamEntry s) := by
  have hline : spriteOnLine (directRead s s.cfg.io.lcdc) y ∘ oamEntry s = intersects s y :=
    funext (spriteOnLine_oamEntry s y)
  unfold spritesOnLine selectedSprites
  split
  · rw [List.filter_map, ← List.map_take, hline, take_filter_range]
  · rfl

/-- The tile of a 16-row sprite is the even one of its pair (R454). -/
theorem toNat_and_0xFE (v : Byte) : (v &&& 0xFE#8).toNat = 2 * (v.toNat / 2) := by
  revert v; decide

/-- The address of a sprite's tile row on line y, in whole numbers (R454). -/
def spriteRowAddress (lcdc : Byte) (y : Nat) (p : Sprite) : Nat :=
  let h := if lcdc.getLsbD 2 then 16 else 8
  let row := if s.cfg.spriteFlips && p.attr.getLsbD 6 then h - 1 - (y + 16 - p.y.toNat) else y + 16 - p.y.toNat
  0x8000 + 16 * (if h = 16 then 2 * (p.tile.toNat / 2) else p.tile.toNat) + 2 * row

theorem spriteRow_eq (lcdc : Byte) (y : Nat) (p : Sprite) :
    spriteRow s lcdc y p
      = (byteAt s (spriteRowAddress s lcdc y p), byteAt s (spriteRowAddress s lcdc y p + 1)) := by
  have htile (h : Nat) : (if h = 16 then 2 * (p.tile.toNat / 2) else p.tile.toNat)
      = (if h = 16 then p.tile &&& 0xFE#8 else p.tile).toNat := by
    rw [← toNat_and_0xFE, apply_ite BitVec.toNat]
  have hword (tile : Byte) (n : Nat) :
      0x8000#16 + 16#16 * zext16 tile + BitVec.ofNat 16 n = BitVec.ofNat 16 (0x8000 + 16 * tile.toNat + n) := by
    rw [BitVec.ofNat_add, BitVec.ofNat_add, BitVec.ofNat_mul, BitVec.ofNat_toNat]; rfl
  unfold spriteRow spriteRowAddress
  dsimp only
  rw [hword, htile, byteAt_succ]
  rfl

theorem spritePixelId_oamEntry (x y i : Nat) :
    spritePixelId (s.cfg.spriteFlips && (oamEntry s i).attr.getLsbD 5) (oamEntry s i)
        (spriteRow s (directRead s s.cfg.io.lcdc) y (oamEntry s i)).1
        (spriteRow s (directRead s s.cfg.io.lcdc) y (oamEntry s i)).2 x
      = spriteId s x y i := by
  rw [spriteRow_eq, oamEntry_eq]
  rfl

/-! ### The rendered line -/

theorem lineIds_length (y : Nat) : (lineIds s y).length = 160 :=
  (drawSprites_get s _ y 0 (by decide) _ _ (by rw [List.length_map, List.length_range]; rfl)).1

/-- The id of a pixel is that of the last sprite opaque there, else the background's (R454, R455). -/
theorem lineIds_getD (x y : Nat) (hx : x < 160) :
    (lineIds s y).getD x 0
      = (((selectedSprites s y).map (spriteId s x y)).filter (fun id => id != 0)).getLastD (backgroundId s x y) := by
  have hget := (drawSprites_get s (directRead s s.cfg.io.lcdc) y x hx (spritesOnLine s (directRead s s.cfg.io.lcdc) y)
    ((List.range lcdWidth).map (bgPixel s (directRead s s.cfg.io.lcdc) y)) (by rw [List.length_map, List.length_range]; rfl)).2
  refine hget.trans ?_
  have hbg : ((List.range lcdWidth).map (bgPixel s (directRead s s.cfg.io.lcdc) y)).getD x 0 = backgroundId s x y := by
    rw [List.getD_eq_getElem?_getD, List.getElem?_map, List.getElem?_range (show x < lcdWidth from hx), Option.map_some,
      Option.getD_some, bgPixel_eq_backgroundId]
  rw [hbg, spritesOnLine_eq, List.map_map]
  congr 3
  exact funext (spritePixelId_oamEntry s x y)

theorem shadeOf_eq_shadeLevel (v : Shade) (id : Nat) : shadeOf v id = shadeLevel v id := by
  rcases id with _ | _ | _ | id <;> rfl

/-- Byte `k` of pixel `x` of a line is the shade of the pixel's colour id (R456). -/
theorem lineBytes_getD (x y k : Nat) (hx : x < 160) (hk : k < 3) :
    (lineBytes s y).getD (3 * x + k) 0 = shadeLevel s.cfg.shade ((lineIds s y).getD x 0) := by
  have hlt : x < (lineIds s y).length := by rw [lineIds_length]; exact hx
  rw [lineBytes, List.getD_eq_getElem?_getD, getElem?_triples _ _ _ _ hk, List.getD_eq_getElem?_getD,
    List.getElem?_eq_getElem hlt, Option.map_some, Option.getD_some, Option.getD_some, shadeOf_eq_shadeLevel]

end

/-- Settles O44: the framebuffer takes the line's bytes, three for each colour id, and each id is that of the last opaque sprite
drawn over the background. -/
theorem renderedLine : Obligations.RenderedLine := by
  intro s y _ fb
  refine ⟨fun x k hx hk => ?_, fun i hi => framebufferByte_setLine_other _ _ _ _ hi⟩
  have hline : ((x + y * 160) * 3 + k) / 480 = y := by omega
  have hbyte : ((x + y * 160) * 3 + k) % 480 = 3 * x + k := by omega
  show framebufferByte (Framebuffer.setLine s.framebuffer y (lineBytes s y)) _ = _
  rw [framebufferByte_setLine_same _ _ _ _ hline, hbyte, lineBytes_getD s x y k hx hk, lineIds_getD s x y hx]

end Sys2Proof.Machine
